-- ==== Sys2Proof/Word.lean ====
section
/-! DEFINITION. The byte, the four flash modules and a value held once per module. -/

namespace Sys2Proof

/-- One byte of the flash channel, of the sensor port, of a tag, a frame or a report page. -/
abbrev Byte := BitVec 8

/-- "Module k" of the manual's conventions, k from 0 to 3. -/
inductive ModuleId where
  | m0 | m1 | m2 | m3
  deriving DecidableEq, Repr

/-- The number of the module. -/
def ModuleId.val : ModuleId → Nat
  | .m0 => 0
  | .m1 => 1
  | .m2 => 2
  | .m3 => 3

/-- The four modules in module order. -/
def ModuleId.all : List ModuleId := [.m0, .m1, .m2, .m3]

/-- The module a number names. -/
def ModuleId.ofNat? : Nat → Option ModuleId
  | 0 => some .m0
  | 1 => some .m1
  | 2 => some .m2
  | 3 => some .m3
  | _ => none

/-- One value for each module. -/
structure PerModule (α : Type) where
  m0 : α
  m1 : α
  m2 : α
  m3 : α
  deriving DecidableEq, Repr

/-- The value of module `k`. -/
def PerModule.get {α : Type} (v : PerModule α) : ModuleId → α
  | .m0 => v.m0
  | .m1 => v.m1
  | .m2 => v.m2
  | .m3 => v.m3

/-- `v` with the value of module `k` replaced. -/
def PerModule.set {α : Type} (v : PerModule α) (k : ModuleId) (x : α) : PerModule α :=
  match k with
  | .m0 => { v with m0 := x }
  | .m1 => { v with m1 := x }
  | .m2 => { v with m2 := x }
  | .m3 => { v with m3 := x }

/-- The same value for every module. -/
def PerModule.const {α : Type} (x : α) : PerModule α := ⟨x, x, x, x⟩

/-- The four values in module order. -/
def PerModule.toList {α : Type} (v : PerModule α) : List α := [v.m0, v.m1, v.m2, v.m3]

end Sys2Proof
end

