-- ==== Sys2Proof/Config.lean ====
section
/-! DEFINITION. The limits and periods the manual fixes, and the one free value it leaves open. -/

namespace Sys2Proof.Config

/-- A value the manual leaves open: the n-th byte a report snapshot shows in a header column that R199
gives no content (page 4 columns 5 to 7, column 3 of pages 5, 6 and 7). It has no body, so nothing can be
proved of its value (assumption log 7). -/
opaque freeByte : Nat → Byte

/-- Read busy limit, 1 ms (R13), in µs. -/
def readBusyLimit : Nat := 1000
/-- Reset busy limit, 5 ms (R15), in µs. -/
def resetBusyLimit : Nat := 5000
/-- Residual busy limit, 50 ms (R9), in µs. -/
def residualLimit : Nat := 50000
/-- The gap between two inserts, 2 µs (R21). -/
def insertGap : Nat := 2
/-- Busy time limit of a program, 10 ms (R82, R99). -/
def programLimitMs : Nat := 10
/-- Busy time limit of an erase, 50 ms (R82, R99). -/
def eraseLimitMs : Nat := 50
/-- Poll period in ACTIVE, 625 µs (R44). -/
def pollActive : Nat := 625
/-- Poll period in DOZE, 10 ms (R45). -/
def pollDoze : Nat := 10000
/-- Length of one sensor transfer, 16 µs (R43). -/
def transferTime : Nat := 16
/-- Current sample period in ACTIVE, 10 ms (R106). -/
def currentActive : Nat := 10000
/-- Current sample period in DOZE, 100 ms (R107). -/
def currentDoze : Nat := 100000
/-- Voltage sample period, 100 ms (R106). -/
def voltagePeriod : Nat := 100000
/-- Period of the retained copies of Q and of the stamp, 60,000 ms (R114, R193). -/
def copyPeriod : Nat := 60000000
/-- One second of the stamp counter, 1000 ms (R192). -/
def stampPeriod : Nat := 1000000
/-- Longest processing of a command frame, 2 ms (R18). -/
def frameTime : Nat := 2000
/-- Longest processing of a report page, 50 µs (R18). -/
def reportTime : Nat := 50
/-- Stale count at which the drop monitor goes BLIND (R60). -/
def blindRun : Nat := 64
/-- The last 32-bit number: of the write sequence (R27), of the shock epoch (R159), of the stamp (R192). -/
def maxWord32 : Nat := 4294967295
/-- One mAh in µC (R110). -/
def microCoulombPerMah : Nat := 3600000
/-- Data columns of a page (1.1). -/
def dataColumns : Nat := 4096
/-- Columns of a page (1.1). -/
def pageColumns : Nat := 4128
/-- Places of the suspect list (R142). -/
def suspectPlaces : Nat := 48
/-- Places of the shock log (R155). -/
def shockPlaces : Nat := 32
/-- Places of the voltage window (R117). -/
def voltagePlaces : Nat := 16

end Sys2Proof.Config
end

