-- ==== Sys2Proof/Syntax.lean ====
section
/-! DEFINITION. The commands and events of spec/opcode_table.json, one constructor a row, with the operands each brings
from outside the part. -/

namespace Sys2Proof

/-- The seven reply bytes of one accelerometer transfer (R43). -/
structure SensorReply where
  status : Byte
  xHigh : Byte
  xLow : Byte
  yHigh : Byte
  yLow : Byte
  zHigh : Byte
  zLow : Byte
  deriving DecidableEq, Repr

/-- What a reset samples from outside the part: the straps of step 3 (R187), the reset sample of step 6 (R106), and the
module-port RB lines at step 9 (R9): `true` where the line shows busy. -/
structure ResetInputs where
  svcSel : BitVec 2
  modCnt : BitVec 2
  sample : BitVec 16
  rbBusy : PerModule Bool
  deriving DecidableEq, Repr

/-- The commands and events that reach the part: the rows of spec/opcode_table.json in their order. The module of an open
code is the one whose CE# pin is asserted (R2), so the open codes carry no operand. -/
inductive Instr where
  /-- READ_OPEN (R2): the READ open code. -/
  | readOpen
  /-- PROGRAM_OPEN (R2): the PROGRAM open code. -/
  | programOpen
  /-- ERASE_OPEN (R2): the ERASE open code. -/
  | eraseOpen
  /-- IDENTIFY (R2): the IDENTIFY code. -/
  | identify
  /-- STATUS (R8): the STATUS code. -/
  | status
  /-- MODULE_RESET (R15): the MODULE RESET code from the drive controller. -/
  | moduleReset
  /-- SUSPEND (R4): the SUSPEND code from the drive controller. -/
  | suspend
  /-- RESUME (R4): the RESUME code from the drive controller. -/
  | resume
  /-- ADDRESS_CYCLE (R3): one address cycle carrying `b`. -/
  | addressCycle (b : Byte)
  /-- COLUMN_MOVE (R31): the COLUMN MOVE code with its two column cycles, naming column `col`. -/
  | columnMove (col : BitVec 16)
  /-- DATA_IN_CYCLE (R29): one data byte written by the drive controller. -/
  | dataInCycle (b : Byte)
  /-- DATA_OUT_STROBE (R36): one read strobe; `b` is the byte the module drives if the strobe is forwarded to it. -/
  | dataOutStrobe (b : Byte)
  /-- READ_CLOSE (R5): the READ close code. -/
  | readClose
  /-- PROGRAM_CLOSE (R7): the PROGRAM close code. -/
  | programClose
  /-- ERASE_CLOSE (R83): the ERASE close code. -/
  | eraseClose
  /-- UNPLACED_CODE (R3): the code byte `c`, with no place where it arrives. -/
  | unplacedCode (c : Byte)
  /-- CE_ASSERT (R188): CE#k asserted on the drive port. -/
  | ceAssert (k : ModuleId)
  /-- CE_DEASSERT (R2): CE#k deasserted on the drive port. -/
  | ceDeassert (k : ModuleId)
  /-- MODULE_READY_RETURN (R16): the RB line of module k returns ready on the module port. -/
  | moduleReadyReturn (k : ModuleId)
  /-- READ_BUSY_TIMEOUT (R13): the read busy period of module k reaches 1 ms. -/
  | readBusyTimeout (k : ModuleId)
  /-- RESET_BUSY_TIMEOUT (R15): the reset busy period of module k reaches 5 ms. -/
  | resetBusyTimeout (k : ModuleId)
  /-- RESIDUAL_BUSY_TIMEOUT (R9): the residual busy period of module k reaches 50 ms. -/
  | residualBusyTimeout (k : ModuleId)
  /-- BUSY_TIMER_EXPIRY (R99): the busy time of slot k passes its limit. -/
  | busyTimerExpiry (k : ModuleId)
  /-- HOLD_LIMIT_EXPIRY (R89): the hold of slot k lasts longer than HOLD_LIMIT. -/
  | holdLimitExpiry (k : ModuleId)
  /-- INSERT_START (R21): the arbiter starts the head entry of the insert queue. -/
  | insertStart
  /-- STATUS_CHECK_COMPLETE (R98): the running STATUS_CHECK has read the status byte `b`. -/
  | statusCheckComplete (b : Byte)
  /-- SUSPEND_COMPLETE (R94): the running SUSPEND has been sent; `ready` is the level of the module's RB line. -/
  | suspendComplete (ready : Bool)
  /-- RESUME_COMPLETE (R96): the running RESUME has been sent. -/
  | resumeComplete
  /-- RELEASE_COMPLETE (R88): the running RELEASE has been sent. -/
  | releaseComplete
  /-- POLL_DUE (R44): a poll of the accelerometer falls due. -/
  | pollDue
  /-- SAMPLE_ARRIVAL (R46): the sensor transfer ends with reply `r`. -/
  | sampleArrival (r : SensorReply)
  /-- CURRENT_SAMPLE_DUE (R106): a current conversion falls due. -/
  | currentSampleDue
  /-- CURRENT_SAMPLE_ARRIVAL (R111): the current conversion ends with the signed reading `raw`. -/
  | currentSampleArrival (raw : BitVec 16)
  /-- VOLTAGE_SAMPLE_DUE (R106): a voltage conversion falls due. -/
  | voltageSampleDue
  /-- VOLTAGE_SAMPLE_ARRIVAL (R117): the voltage conversion ends with the reading `mv`. -/
  | voltageSampleArrival (mv : BitVec 16)
  /-- Q_COPY_DUE (R114): the retained copy of Q falls due. -/
  | qCopyDue
  /-- STAMP_SECOND (R192): a second of the stamp counter ends. -/
  | stampSecond
  /-- STAMP_COPY_DUE (R193): the retained copy of the stamp falls due. -/
  | stampCopyDue
  /-- DOZE_ENTRY (R189): the part enters DOZE. -/
  | dozeEntry
  /-- POWER_LOSS (R130): the supply falls below 2.9 V. -/
  | powerLoss
  /-- POWER_ON (R132): the supply returns. -/
  | powerOn (inp : ResetInputs)
  /-- RESET_ASSERT (R130): RESET# is asserted. -/
  | resetAssert
  /-- RESET_RELEASE (R132): RESET# is released. -/
  | resetRelease (inp : ResetInputs)
  /-- SET_SETTING (R168): the captured frame is executed as command 0x01. -/
  | setSetting
  /-- MODIFY_ATTENTION (R169): the captured frame is executed as command 0x02. -/
  | modifyAttention
  /-- SET_STAMP (R170): the captured frame is executed as command 0x03. -/
  | setStamp
  /-- SET_CHARGE (R171): the captured frame is executed as command 0x04. -/
  | setCharge
  /-- MARK_FULL (R121): the captured frame is executed as command 0x05. -/
  | markFull
  /-- RELEASE_SUSPECT (R152): the captured frame is executed as command 0x06. -/
  | releaseSuspect
  /-- CLEAR_SHOCK_LOG (R160): the captured frame is executed as command 0x07. -/
  | clearShockLog
  /-- RELEASE_HOLDS (R90): the captured frame is executed as command 0x08. -/
  | releaseHolds
  /-- CLEAR_COUNTERS (R173): the captured frame is executed as command 0x09. -/
  | clearCounters
  /-- RESTORE_DEFAULTS (R174): the captured frame is executed as command 0x0A. -/
  | restoreDefaults
  /-- REPORT_PAGE_1 (R177): the close code of the open service read of page 1. -/
  | reportPage1
  /-- REPORT_PAGE_2 (R176): the close code of the open service read of page 2. -/
  | reportPage2
  /-- REPORT_PAGE_3 (R161): the close code of the open service read of page 3. -/
  | reportPage3
  /-- REPORT_PAGE_4 (R154): the close code of the open service read of page 4. -/
  | reportPage4
  /-- REPORT_PAGE_5 (R105): the close code of the open service read of page 5. -/
  | reportPage5
  /-- REPORT_PAGE_6 (R178): the close code of the open service read of page 6. -/
  | reportPage6
  /-- REPORT_PAGE_7 (R176): the close code of the open service read of page 7. -/
  | reportPage7
  /-- SERVICE_PROCESSING_END (R18): the processing of the service sequence ends. -/
  | serviceProcessingEnd
  deriving DecidableEq, Repr

end Sys2Proof
end

