-- ==== Sys2Proof/Machine/State.lean ====
section
/-! DEFINITION. Everything the manual gives the part to hold, as plain data, and the part right after its first power-on
ever. Times are in µs of the time base unless a name says ms. -/

namespace Sys2Proof.Machine

/-- The reasons a command could stop the part with a fault. The manual names none: every command has an effect, and an event
that cannot occur changes nothing, so there is no constructor (safe). -/
inductive Fault where
  deriving DecidableEq, Repr

/-- The reasons a command could be refused by the model. -/
inductive Refusal where
  /-- Raised by an arm of `exec` whose command has no meaning yet (safe). No arm does. -/
  | notModelled (mnemonic : String)
  deriving DecidableEq, Repr

/-! ### Power and reset -/

/-- Which reset is being run (R130, R132). -/
inductive ResetKind where
  | powerOn
  | warm
  deriving DecidableEq, Repr

/-- Where the part stands between resets: serving the drive port, at step 2 of a reset with RESET# asserted, or without
supply (R130, R132). -/
inductive Phase where
  | running
  | inReset (kind : ResetKind)
  | unpowered
  deriving DecidableEq, Repr

/-- The straps sampled at step 3 of the latest reset (R187). -/
structure Straps where
  svcSel : BitVec 2
  modCnt : BitVec 2
  deriving DecidableEq, Repr

/-! ### Settings -/

/-- The 23 settings, in id order (R181). -/
inductive SettingId where
  | window | fallLevel | fallExit | fallConfirm | impactLevel | restLow | restHigh | settleCount | holdLimit
  | accGainX | accGainY | accGainZ | accOffsetX | accOffsetY | accOffsetZ
  | capacity | reserve | critMv | curGain | curOffset | attnEnable | dozeDelay | counterClearOnRead
  deriving DecidableEq, Repr

/-- The settings table: one stored value a setting (R182). -/
structure Settings where
  window : Int
  fallLevel : Int
  fallExit : Int
  fallConfirm : Int
  impactLevel : Int
  restLow : Int
  restHigh : Int
  settleCount : Int
  holdLimit : Int
  accGainX : Int
  accGainY : Int
  accGainZ : Int
  accOffsetX : Int
  accOffsetY : Int
  accOffsetZ : Int
  capacity : Int
  reserve : Int
  critMv : Int
  curGain : Int
  curOffset : Int
  attnEnable : Int
  dozeDelay : Int
  counterClearOnRead : Int
  deriving DecidableEq, Repr

/-- The defaults of R181. -/
def Settings.defaults : Settings where
  window := 16
  fallLevel := 38
  fallExit := 77
  fallConfirm := 24
  impactLevel := 640
  restLow := 96
  restHigh := 232
  settleCount := 160
  holdLimit := 1200
  accGainX := 1024
  accGainY := 1024
  accGainZ := 1024
  accOffsetX := 0
  accOffsetY := 0
  accOffsetZ := 0
  capacity := 6000
  reserve := 300
  critMv := 3100
  curGain := 16384
  curOffset := 0
  attnEnable := 255
  dozeDelay := 2000
  counterClearOnRead := 0

/-! ### Battery and motion names -/

/-- Battery level (6.7). -/
inductive Level where
  | normal
  | reserve
  | critical
  deriving DecidableEq, Repr

/-- Drop monitor state (4.1). -/
inductive MonState where
  | calm
  | falling
  | struck
  | settling
  | blind
  deriving DecidableEq, Repr

/-! ### Operation slots -/

/-- State of a slot (5.1). -/
inductive SlotState where
  | free
  | held
  | issued
  | suspended
  deriving DecidableEq, Repr

/-- The insert a live slot is waiting on (5.1, the step table). -/
inductive SlotStep where
  | waiting
  | releaseQueued
  | releasing
  | busy
  | suspending
  | checking
  | parked
  | resuming
  | rechecking
  deriving DecidableEq, Repr

/-- Kind of operation (5.1). -/
inductive OpKind where
  | program
  | erase
  deriving DecidableEq, Repr

/-- What ended a hold (5.3). -/
inductive ReleaseCause where
  | settled
  | holdLimit
  | forced
  | critical
  | blind
  deriving DecidableEq, Repr

/-- Outcome of a closed operation (5.6, R133). -/
inductive SlotOutcome where
  | done
  | failed
  | timedOut
  | refused
  | withdrawn
  | aborted
  | torn
  | lost
  deriving DecidableEq, Repr

/-- The exposure mark of a slot: the shock record it names and the offset in ms (R73). -/
structure Exposure where
  record : Nat
  offset : Nat
  deriving DecidableEq, Repr

/-- The retained record of a slot (5.1). `state` is the state as written to retained memory, which stands one step ahead of
the live state while a RELEASE or RESUME insert runs (R81). -/
structure SlotRec where
  state : SlotState
  kind : Option OpKind
  block : Option (BitVec 11)
  page : Option (BitVec 7)
  tagged : Bool
  writeSeq : Option Nat
  level : Option Level
  holdStart : Option Nat
  cause : Option ReleaseCause
  exposure : Option Exposure
  busyMs : Nat
  last : Option SlotOutcome
  deriving DecidableEq, Repr

/-- A slot before any operation (R80). -/
def SlotRec.blank : SlotRec where
  state := .free
  kind := none
  block := none
  page := none
  tagged := false
  writeSeq := none
  level := none
  holdStart := none
  cause := none
  exposure := none
  busyMs := 0
  last := none

/-- The volatile part of a slot (5.1, R82): live state and step, suspend flag, issue time in ms, the busy timer (the value it
had when it last started or stopped, and the ms at which it last started, absent while it stands), and the ready return that
came while the slot's RELEASE or RESUME ran and is kept for the insert's completion (R97). -/
structure SlotLive where
  state : SlotState
  step : Option SlotStep
  suspendFlag : Bool
  issueMs : Option Nat
  timerValue : Nat
  timerFrom : Option Nat
  keptReturn : Bool
  deriving DecidableEq, Repr

/-- The volatile part of a slot after a reset (R80). -/
def SlotLive.empty : SlotLive where
  state := .free
  step := none
  suspendFlag := false
  issueMs := none
  timerValue := 0
  timerFrom := none
  keptReturn := false

/-! ### Suspect list and shock log -/

/-- Reason of a suspect entry, in order of severity (8.1). -/
inductive Reason where
  | exposed
  | aborted
  | timedOut
  | failed
  | lost
  | torn
  | mismatch
  | misplaced
  deriving DecidableEq, Repr

/-- Verdict of a suspect entry: OPEN or DAMAGED (8.1). -/
inductive Verdict where
  | isOpen
  | damaged
  deriving DecidableEq, Repr

/-- Key of a suspect entry; no page for a block entry (8.1). -/
structure SuspectKey where
  module : ModuleId
  block : BitVec 11
  page : Option (BitVec 7)
  deriving DecidableEq, Repr

/-- One entry of the suspect list, or one entry request (8.1, R143). -/
structure Suspect where
  key : SuspectKey
  reason : Reason
  verdict : Verdict
  writeSeq : Option Nat
  shock : Option Nat
  stamp : Nat
  deriving DecidableEq, Repr

/-- Kind of a shock record (8.6). -/
inductive ShockKind where
  | fall
  | drop
  | knock
  | dropout
  | blind
  deriving DecidableEq, Repr

/-- An axis of the accelerometer. -/
inductive Axis where
  | x
  | y
  | z
  deriving DecidableEq, Repr

/-- The peak of a shock record: its L1 and its axis (R70). -/
structure Peak where
  l1 : Nat
  axis : Axis
  deriving DecidableEq, Repr

/-- One shock record (8.6). -/
structure ShockRec where
  number : Nat
  kind : ShockKind
  stamp : Nat
  duration : Nat
  peak : Option Peak
  saturated : Bool
  strikes : Nat
  charge : Nat
  exposed : Nat
  held : Nat
  isOpen : Bool
  deriving DecidableEq, Repr

/-! ### Retained memory -/

/-- The retained copy of Q with its two flags (R114). -/
structure ChargeCopy where
  q : Nat
  underrun : Bool
  unknown : Bool
  deriving DecidableEq, Repr

/-- The contents of retained memory (10.5). `marker` is the format marker: clear while the memory is blank (R194). -/
structure Retained where
  marker : Bool
  settings : Settings
  slots : PerModule SlotRec
  suspects : List Suspect
  overflow : Nat
  shocks : List ShockRec
  epoch : Nat
  overwritten : Nat
  writeSeq : Nat
  chargeCopy : ChargeCopy
  stampCopy : Nat
  deriving DecidableEq, Repr

/-- Retained memory as the first power-on ever sets it up (R141, R194). -/
def Retained.setUp : Retained where
  marker := true
  settings := Settings.defaults
  slots := PerModule.const SlotRec.blank
  suspects := []
  overflow := 0
  shocks := []
  epoch := 0
  overwritten := 0
  writeSeq := 1
  chargeCopy := { q := 10800000000, underrun := false, unknown := true }
  stampCopy := 0

/-! ### Channel relay -/

/-- The kinds of drive sequence that stay open past their code (1.1). -/
inductive SeqKind where
  | read
  | program
  | erase
  | identify
  | status
  deriving DecidableEq, Repr

/-- What the relay does with the open sequence: still latching its address cycles, or the handling its classification gave
(R4, R12, R17). A report page read carries the column its next strobe reads (R18). -/
inductive Handling where
  | latching
  | discarded
  | refused
  | absent
  | passed
  | svcFrame
  | svcReport (page : BitVec 7) (column : Nat)
  | svcBlank
  deriving DecidableEq, Repr

/-- The answer of a STATUS: a byte of the part's own, or the module's status byte (R8). -/
inductive StatusAnswer where
  | byPart (b : Byte)
  | fromModule
  deriving DecidableEq, Repr

/-- The open drive sequence (R2, R3). `closeTaken`: its close code has been taken. `timedOut`: its read busy period timed
out (R13). `counted`: the violation counted once a sequence (R5, R6, R18) has been counted. `answer`: of a STATUS. -/
structure Seq where
  kind : SeqKind
  module : ModuleId
  latched : List Byte
  handling : Handling
  closeTaken : Bool
  timedOut : Bool
  counted : Bool
  answer : StatusAnswer
  deriving DecidableEq, Repr

/-- The channel relay (1.2 to 1.4). `absorb`: cycles are absorbed up to the next open code (R2, R19). `stray`: the first
stray data cycle has been counted (R3). `nested`: the STATUS open inside a read or IDENTIFY (R2). `readyFail`: answer
override. `readBusy`, `resetBusy`, `residual`: the end of the running busy period, absent when none runs. -/
structure Relay where
  absorb : Bool
  stray : Bool
  seq : Option Seq
  nested : Option StatusAnswer
  readyFail : PerModule Bool
  stuck : PerModule Bool
  serviceAnswer : Bool
  readBusy : PerModule (Option Nat)
  resetBusy : PerModule (Option Nat)
  residual : PerModule (Option Nat)
  deriving DecidableEq, Repr

/-- The relay as the drive port is first served, before residual busy periods start (R9, R139). -/
def Relay.initial : Relay where
  absorb := false
  stray := false
  seq := none
  nested := none
  readyFail := PerModule.const false
  stuck := PerModule.const false
  serviceAnswer := false
  readBusy := PerModule.const none
  resetBusy := PerModule.const none
  residual := PerModule.const none

/-- Kind of an insert (R20). -/
inductive InsertKind where
  | statusCheck
  | suspend
  | resume
  | release
  deriving DecidableEq, Repr

/-- An insert; the cause is carried by a RELEASE (R20, R86). -/
structure Insert where
  module : ModuleId
  kind : InsertKind
  cause : Option ReleaseCause
  deriving DecidableEq, Repr

/-- The module bus arbiter (1.6): the insert queue, head first; the running insert; the end of the last insert while no drive
sequence has used the module bus since (R21); and whether the wake from DOZE holds WAIT (R190). -/
structure Arbiter where
  queue : List Insert
  running : Option Insert
  gapFrom : Option Nat
  wakeWait : Bool
  deriving DecidableEq, Repr

/-- The arbiter after a reset (R20). -/
def Arbiter.initial : Arbiter where
  queue := []
  running := none
  gapFrom := none
  wakeWait := false

/-! ### Service handler -/

/-- Result of a command frame (R165). -/
inductive CmdResult where
  | accepted
  | clamped
  | malformed
  | unknown
  | notFound
  deriving DecidableEq, Repr

/-- The answer to the latest frame (R166). -/
structure Answer where
  frameNumber : Byte
  code : Byte
  result : CmdResult
  applied : Option Int
  deriving DecidableEq, Repr

/-- What an executed command leaves for its answer. -/
structure CmdDone where
  result : CmdResult
  applied : Int
  deriving DecidableEq, Repr

/-- The service sequence being processed (R18): a command frame, with what its command gave once executed, or a report page. -/
inductive Processing where
  | frame (bytes : List Byte) (done : Option CmdDone)
  | report (page : BitVec 7)
  deriving DecidableEq, Repr

/-- The frame buffer of the open service program and its position (R164). -/
structure FrameBuf where
  bytes : List Byte
  pos : Nat
  deriving DecidableEq, Repr

/-- The snapshot of a report page: its content from column 0; columns beyond it read 0xFF (R175, R199). -/
structure Snapshot where
  page : BitVec 7
  content : List Byte
  deriving DecidableEq, Repr

/-- The service handler (9.1 to 9.4). `processingBy` is the latest end of the processing under way (R18). -/
structure Service where
  frame : Option FrameBuf
  processing : Option Processing
  processingBy : Nat
  answer : Option Answer
  answerCount : Nat
  snapshot : Option Snapshot
  deriving DecidableEq, Repr

/-- The service handler after a reset (R139). -/
def Service.initial : Service where
  frame := none
  processing := none
  processingBy := 0
  answer := none
  answerCount := 0
  snapshot := none

/-! ### Tag engine -/

/-- The program state of the tag engine (R28). `tag` is absent until the tag is built. -/
structure TagProgram where
  module : ModuleId
  block : BitVec 11
  page : BitVec 7
  pos : Nat
  crc : BitVec 32
  tagged : Bool
  tag : Option (List Byte)
  writeSeq : Option Nat
  deriving DecidableEq, Repr

/-- The read state of the tag engine (R35). -/
structure TagRead where
  module : ModuleId
  block : BitVec 11
  page : BitVec 7
  pos : Nat
  crc : BitVec 32
  inOrder : Bool
  allFF : Bool
  captured : List Byte
  settled : Bool
  deriving DecidableEq, Repr

/-- The tag engine's working state: at most one program or one read (2). -/
structure TagEngine where
  program : Option TagProgram
  read : Option TagRead
  deriving DecidableEq, Repr

/-! ### Motion front end and drop monitor -/

/-- A corrected sample: the three axis values and their L1 (R47). -/
structure Sample where
  cx : Int
  cy : Int
  cz : Int
  l1 : Nat
  deriving DecidableEq, Repr

/-- The motion front end (3). `transfer` holds the end of the running sensor transfer, absent while the port is IDLE. The
STALE counter stands with the other page 7 counters. -/
structure FrontEnd where
  transfer : Option Nat
  pollPeriod : Nat
  nextPoll : Nat
  last : Sample
  staleCount : Nat
  window : List Nat
  sum : Nat
  deriving DecidableEq, Repr

/-- The front end after a reset, with `n` window places (R54). -/
def FrontEnd.initial (n : Nat) : FrontEnd where
  transfer := none
  pollPeriod := Config.pollActive
  nextPoll := Config.pollActive
  last := { cx := 0, cy := 0, cz := 128, l1 := 128 }
  staleCount := 0
  window := List.replicate n 128
  sum := 128 * n

/-- The drop monitor (4.1). The two lists are the modules counted in the open record's held-slot and exposed-slot counts
(R72). -/
structure Monitor where
  state : MonState
  lowRun : Nat
  settle : Nat
  openRec : Option Nat
  heldCounted : List ModuleId
  exposedCounted : List ModuleId
  deriving DecidableEq, Repr

/-- The monitor after a reset (R59). -/
def Monitor.initial : Monitor where
  state := .calm
  lowRun := 0
  settle := 0
  openRec := none
  heldCounted := []
  exposedCounted := []

/-! ### Battery gauge, counters, attention, time -/

/-- The battery gauge (6): live Q in µC and its flags, the last calibrated current, the sample schedules with whether a
conversion runs, the voltage window with its sum, the two conditions (`true` is LOW), and the copy schedule. The level is
derived from the two conditions (R118). -/
structure Gauge where
  q : Nat
  underrun : Bool
  unknown : Bool
  iCal : Int
  currentPeriod : Nat
  nextCurrent : Nat
  currentRunning : Bool
  nextVoltage : Nat
  voltageRunning : Bool
  vWindow : List Nat
  vSum : Nat
  voltageLow : Bool
  chargeLow : Bool
  nextCopy : Nat
  deriving DecidableEq, Repr

/-- The gauge as the drive port is first served after a reset whose reset sample is `mv`, with the charge and the conditions
given (R106, R117, R139). -/
def Gauge.initial (c : ChargeCopy) (mv : Nat) (voltageLow chargeLow : Bool) : Gauge where
  q := c.q
  underrun := c.underrun
  unknown := c.unknown
  iCal := 0
  currentPeriod := Config.currentActive
  nextCurrent := Config.currentActive
  currentRunning := false
  nextVoltage := Config.voltagePeriod
  voltageRunning := false
  vWindow := List.replicate Config.voltagePlaces mv
  vSum := Config.voltagePlaces * mv
  voltageLow := voltageLow
  chargeLow := chargeLow
  nextCopy := Config.copyPeriod

/-- The thirteen counters of report page 7, in page order (R178). -/
inductive CounterId where
  | empty | untagged | misplaced | mismatch | matched | skipped
  | protocol | timeout | refusedPrograms | refusedErases | holds | holdBreaks | stale
  deriving DecidableEq, Repr

/-- The values of the page 7 counters. -/
structure Counters where
  empty : Nat
  untagged : Nat
  misplaced : Nat
  mismatch : Nat
  matched : Nat
  skipped : Nat
  protocol : Nat
  timeout : Nat
  refusedPrograms : Nat
  refusedErases : Nat
  holds : Nat
  holdBreaks : Nat
  stale : Nat
  deriving DecidableEq, Repr

/-- Every counter at 0 (R173). -/
def Counters.zero : Counters := ⟨0, 0, 0, 0, 0, 0, 0, 0, 0, 0, 0, 0, 0⟩

/-- The eight attention causes, in bit order (R179). -/
inductive AttnCause where
  | shock
  | restartLoss
  | integrity
  | battery
  | refusal
  | holdBreak
  | moduleStuck
  | listFull
  deriving DecidableEq, Repr

/-- Doze control (10.3): DOZE or ACTIVE, and the ms at which the idle time was last set to 0. -/
structure Doze where
  dozing : Bool
  idleFromMs : Nat
  deriving DecidableEq, Repr

/-- The stamp counter, the end of its running second and the due time of its retained copy (R192, R193). -/
structure StampClock where
  stamp : Nat
  nextSecond : Nat
  nextCopy : Nat
  deriving DecidableEq, Repr

/-- The stamp clock as the drive port is first served. -/
def StampClock.initial (stamp : Nat) : StampClock where
  stamp := stamp
  nextSecond := Config.stampPeriod
  nextCopy := Config.copyPeriod

/-! ### Ports -/

/-- One cycle the part drives on the module port under CE#k. -/
inductive ModuleCycle where
  | code (k : ModuleId) (c : Byte)
  | addr (k : ModuleId) (b : Byte)
  | data (k : ModuleId) (b : Byte)
  | strobe (k : ModuleId)
  deriving DecidableEq, Repr

/-- What the part drove during the latest command: its module-port cycles in order, the byte it put on the drive port's data
lines (absent where it drove none), and the bytes it clocked out on the sensor port (R43). The level outputs (RB#, WAIT,
ATTN#) are functions of the state, in Machine/Flags.lean. -/
structure Ports where
  moduleCycles : List ModuleCycle
  driveData : Option Byte
  sensorOut : List Byte
  deriving DecidableEq, Repr

/-- Nothing driven. -/
def Ports.quiet : Ports := ⟨[], none, []⟩

/-! ### The part -/

/-- The whole part. `ce` and `resetPin` are the input pins CE0#–CE3# and RESET# (`true` is asserted); `now` is the time base
in µs since the drive port was first served (its thousands are the ms timer); `freeIndex` is the model's own count of the free
values taken (log 7); `pending` is the queue of the commands that wait, first in first out. -/
structure State where
  phase : Phase
  resetPin : Bool
  ce : PerModule Bool
  now : Nat
  straps : Straps
  ret : Retained
  relay : Relay
  arb : Arbiter
  svc : Service
  tag : TagEngine
  fe : FrontEnd
  mon : Monitor
  slots : PerModule SlotLive
  releaseQueue : List ModuleId
  gauge : Gauge
  counters : Counters
  causes : BitVec 8
  doze : Doze
  clock : StampClock
  ports : Ports
  freeIndex : Nat
  pending : List Instr
  deriving DecidableEq, Repr

/-- The part as the drive port is first served after the first power-on ever (R132, R139, R141), with the straps SVC_SEL 0
and MOD_CNT 3, every CE# deasserted, RESET# released, every module ready and a reset sample of 3710 mV (log 1). -/
def State.reset : State where
  phase := .running
  resetPin := false
  ce := PerModule.const false
  now := 0
  straps := { svcSel := 0, modCnt := 3 }
  ret := Retained.setUp
  relay := Relay.initial
  arb := Arbiter.initial
  svc := Service.initial
  tag := { program := none, read := none }
  fe := FrontEnd.initial 16
  mon := Monitor.initial
  slots := PerModule.const SlotLive.empty
  releaseQueue := []
  gauge := Gauge.initial Retained.setUp.chargeCopy 3710 false false
  counters := Counters.zero
  causes := 0
  doze := { dozing := false, idleFromMs := 0 }
  clock := StampClock.initial 0
  ports := Ports.quiet
  freeIndex := 0
  pending := []

end Sys2Proof.Machine
end

