-- ==== Sys2Proof/Machine/Ops.lean ====
section
/-! DEFINITION. The named operations every meaning is written over: updates of one part of the state, time, byte order,
counters, attention, the ports, the insert queue and retained slot access. -/

namespace Sys2Proof.Machine

/-! ### Updates of one part of the state -/

def State.onRet (s : State) (f : Retained → Retained) : State := { s with ret := f s.ret }
def State.onRelay (s : State) (f : Relay → Relay) : State := { s with relay := f s.relay }
def State.onArb (s : State) (f : Arbiter → Arbiter) : State := { s with arb := f s.arb }
def State.onSvc (s : State) (f : Service → Service) : State := { s with svc := f s.svc }
def State.onTag (s : State) (f : TagEngine → TagEngine) : State := { s with tag := f s.tag }
def State.onFe (s : State) (f : FrontEnd → FrontEnd) : State := { s with fe := f s.fe }
def State.onMon (s : State) (f : Monitor → Monitor) : State := { s with mon := f s.mon }
def State.onSlots (s : State) (f : PerModule SlotLive → PerModule SlotLive) : State := { s with slots := f s.slots }
def State.onReleaseQueue (s : State) (f : List ModuleId → List ModuleId) : State := { s with releaseQueue := f s.releaseQueue }
def State.onGauge (s : State) (f : Gauge → Gauge) : State := { s with gauge := f s.gauge }
def State.onCounters (s : State) (f : Counters → Counters) : State := { s with counters := f s.counters }
def State.onCauses (s : State) (f : BitVec 8 → BitVec 8) : State := { s with causes := f s.causes }
def State.onDoze (s : State) (f : Doze → Doze) : State := { s with doze := f s.doze }
def State.onClock (s : State) (f : StampClock → StampClock) : State := { s with clock := f s.clock }
def State.onPorts (s : State) (f : Ports → Ports) : State := { s with ports := f s.ports }

/-! ### Time -/

/-- The ms timer (R139): whole milliseconds of the time base. -/
def State.ms (s : State) : Nat := s.now / 1000

/-- Lets the time base run on to `t`; a moment already reached leaves it (log 3). -/
def State.runTo (s : State) (t : Nat) : State := { s with now := max s.now t }

/-! ### Commands -/

/-- The state in which a command begins: nothing driven yet. -/
def State.begin (s : State) : State := { s with ports := Ports.quiet }

/-- The effect `f` of a command on a part that serves the drive port; a part in reset or without supply takes no command but
those of Machine/Reset.lean (R130, R132). -/
def State.serving (s : State) (f : State → State) : State :=
  match s.phase with
  | .running => f s.begin
  | .inReset _ => s.begin
  | .unpowered => s.begin

/-- Presence of module k, from the straps of the latest reset (R9, R187). -/
def State.present (s : State) (k : ModuleId) : Bool := decide (k.val ≤ s.straps.modCnt.toNat)

/-! ### Numbers and bytes -/

/-- A 16-bit counter grows by 1 and stops at 65535. -/
def grow16 (n : Nat) : Nat := min (n + 1) 65535

/-- `v` clamped to `lo`–`hi`. -/
def clampInt (lo hi v : Int) : Int := if v < lo then lo else if hi < v then hi else v

/-- `f` done `n` times. -/
def times {α : Type} : Nat → (α → α) → α → α
  | 0, _, a => a
  | n + 1, f, a => times n f (f a)

/-- Two bytes, high byte first; a value beyond them is shown at the top (R195, R200). -/
def be16 (n : Nat) : List Byte :=
  let v := min n 65535
  [BitVec.ofNat 8 (v / 256), BitVec.ofNat 8 v]

/-- Four bytes, high byte first; a value beyond them is shown at the top (R195, R200). -/
def be32 (n : Nat) : List Byte :=
  let v := min n 4294967295
  [BitVec.ofNat 8 (v / 16777216), BitVec.ofNat 8 (v / 65536), BitVec.ofNat 8 (v / 256), BitVec.ofNat 8 v]

/-- A signed 16-bit field in two's complement, high byte first (R195). -/
def be16Int (v : Int) : List Byte := be16 (BitVec.ofInt 16 (clampInt (-32768) 32767 v)).toNat

/-- A signed 32-bit field in two's complement, high byte first; a value beyond it is shown at the top (R195, R200). -/
def be32Int (v : Int) : List Byte := be32 (BitVec.ofInt 32 (clampInt (-2147483648) 2147483647 v)).toNat

/-- One byte; a value beyond it is shown at the top (R200). -/
def byteOf (n : Nat) : Byte := BitVec.ofNat 8 (min n 255)

/-- The number held by bytes, high byte first (R195). -/
def ofBe (bs : List Byte) : Nat := bs.foldl (fun n b => n * 256 + b.toNat) 0

/-! ### Counters and attention -/

/-- The value of a page 7 counter. -/
def Counters.get (c : Counters) : CounterId → Nat
  | .empty => c.empty
  | .untagged => c.untagged
  | .misplaced => c.misplaced
  | .mismatch => c.mismatch
  | .matched => c.matched
  | .skipped => c.skipped
  | .protocol => c.protocol
  | .timeout => c.timeout
  | .refusedPrograms => c.refusedPrograms
  | .refusedErases => c.refusedErases
  | .holds => c.holds
  | .holdBreaks => c.holdBreaks
  | .stale => c.stale

/-- `c` with one counter set. -/
def Counters.set (c : Counters) (i : CounterId) (n : Nat) : Counters :=
  match i with
  | .empty => { c with empty := n }
  | .untagged => { c with untagged := n }
  | .misplaced => { c with misplaced := n }
  | .mismatch => { c with mismatch := n }
  | .matched => { c with matched := n }
  | .skipped => { c with skipped := n }
  | .protocol => { c with protocol := n }
  | .timeout => { c with timeout := n }
  | .refusedPrograms => { c with refusedPrograms := n }
  | .refusedErases => { c with refusedErases := n }
  | .holds => { c with holds := n }
  | .holdBreaks => { c with holdBreaks := n }
  | .stale => { c with stale := n }

/-- One counter grows by 1, saturating at 65535 (R23, R40, R48, R104, R126). -/
def State.count (s : State) (i : CounterId) : State := s.onCounters fun c => c.set i (grow16 (c.get i))

/-- The bit of a cause in the enable mask and in the pending set (R179). -/
def AttnCause.bit : AttnCause → BitVec 8
  | .shock => 1
  | .restartLoss => 2
  | .integrity => 4
  | .battery => 8
  | .refusal => 16
  | .holdBreak => 32
  | .moduleStuck => 64
  | .listFull => 128

/-- A cause is added to the pending set, whatever its enable bit (R179). -/
def State.raise (s : State) (c : AttnCause) : State := s.onCauses fun p => p ||| c.bit

/-! ### Ports -/

/-- Cycles driven on the module port. -/
def State.drive (s : State) (cs : List ModuleCycle) : State :=
  s.onPorts fun p => { p with moduleCycles := p.moduleCycles ++ cs }

/-- Cycles a drive sequence has forwarded on the module port: the last use of the bus is then no insert (R21). -/
def State.forward (s : State) (cs : List ModuleCycle) : State :=
  (s.drive cs).onArb fun a => { a with gapFrom := none }

/-- The byte put on the drive port's data lines. -/
def State.answerByte (s : State) (b : Byte) : State := s.onPorts fun p => { p with driveData := some b }

/-- The first time in the open sequence, a violation is counted PROTOCOL (R5, R6, R18). -/
def State.countOnce (s : State) (q : Seq) : State :=
  if q.counted then s
  else (s.count .protocol).onRelay fun r => { r with seq := some { q with counted := true } }

/-! ### The insert queue (R20) -/

/-- The queue entry of module k. -/
def queuedFor (q : List Insert) (k : ModuleId) : Option Insert := q.find? fun e => decide (e.module = k)

/-- A request: the module's entry takes the new kind and cause in its place, or a new entry joins the tail. -/
def queueRequest (q : List Insert) (e : Insert) : List Insert :=
  if q.any fun x => decide (x.module = e.module) then
    q.map fun x => if x.module = e.module then e else x
  else q ++ [e]

/-- A withdrawal: the module's entry leaves and those behind it move up. -/
def queueWithdraw (q : List Insert) (k : ModuleId) : List Insert := q.filter fun x => decide (x.module ≠ k)

/-- Requests an insert for module k. -/
def State.request (s : State) (k : ModuleId) (kind : InsertKind) (cause : Option ReleaseCause := none) : State :=
  s.onArb fun a => { a with queue := queueRequest a.queue { module := k, kind := kind, cause := cause } }

/-- Withdraws module k's entry. -/
def State.withdraw (s : State) (k : ModuleId) : State :=
  s.onArb fun a => { a with queue := queueWithdraw a.queue k }

/-- Whether an insert of the kind for module k is queued. -/
def State.isQueued (s : State) (k : ModuleId) (kind : InsertKind) : Bool :=
  s.arb.queue.any fun e => decide (e.module = k) && decide (e.kind = kind)

/-- Whether an insert of the kind for module k runs. -/
def State.isRunning (s : State) (k : ModuleId) (kind : InsertKind) : Bool :=
  match s.arb.running with
  | some e => decide (e.module = k) && decide (e.kind = kind)
  | none => false

/-- The running insert completes: WAIT is released and the gap begins (R21). -/
def State.insertEnds (s : State) : State :=
  s.onArb fun a => { a with running := none, gapFrom := some s.now }

/-! ### Slots -/

/-- The retained record of slot k. -/
def State.slotRec (s : State) (k : ModuleId) : SlotRec := s.ret.slots.get k

/-- The volatile part of slot k. -/
def State.slotLive (s : State) (k : ModuleId) : SlotLive := s.slots.get k

/-- Writes slot k's record to retained memory (R81). -/
def State.setSlotRec (s : State) (k : ModuleId) (r : SlotRec) : State :=
  s.onRet fun m => { m with slots := m.slots.set k r }

/-- Sets slot k's volatile part. -/
def State.setSlotLive (s : State) (k : ModuleId) (l : SlotLive) : State := s.onSlots fun v => v.set k l

/-- A slot is live in HELD, ISSUED or SUSPENDED (5.1). -/
def SlotState.isLive : SlotState → Bool
  | .free => false
  | .held => true
  | .issued => true
  | .suspended => true

/-- Busy time of a slot at the ms given, saturating at 65535 (R82). -/
def SlotLive.busyMs (l : SlotLive) (ms : Nat) : Nat :=
  match l.timerFrom with
  | none => min l.timerValue 65535
  | some t => min (l.timerValue + (ms - t)) 65535

/-- The busy timer stops at the value it has reached (R82). -/
def SlotLive.stopTimer (l : SlotLive) (ms : Nat) : SlotLive := { l with timerValue := l.busyMs ms, timerFrom := none }

/-- The busy timer counts on from the value it has reached (R82). -/
def SlotLive.runTimer (l : SlotLive) (ms : Nat) : SlotLive := { l with timerFrom := some ms }

/-- The limit of a slot's busy time in ms (R82). -/
def SlotRec.limitMs (r : SlotRec) : Nat :=
  match r.kind with
  | some .erase => Config.eraseLimitMs
  | some .program => Config.programLimitMs
  | none => Config.programLimitMs

/-- Whether the slot's operation is an erase. -/
def SlotRec.isErase (r : SlotRec) : Bool := decide (r.kind = some .erase)

/-- The key of a slot's operation in the suspect list: a page key of a program, a block key of an erase (R102). -/
def SlotRec.key (r : SlotRec) (k : ModuleId) : SuspectKey where
  module := k
  block := r.block.getD 0
  page := if r.isErase then none else r.page

end Sys2Proof.Machine
end

