-- ==== Sys2Proof/Machine/Operands.lean ====
section
/-! DEFINITION. Reading operands: channel codes and latched addresses, sensor words, command frames and their arguments, and
the settings table with its clamping. -/

namespace Sys2Proof.Machine

/-! ### Channel codes (R196) -/

/-- The codes the part recognises on the channel. -/
inductive ChannelCode where
  | readOpen | readClose | programOpen | programClose | eraseOpen | eraseClose
  | status | moduleReset | suspend | resume | identify | columnMove
  deriving DecidableEq, Repr

/-- The code byte of each code (R196). -/
def ChannelCode.byte : ChannelCode → Byte
  | .readOpen => 0x05
  | .readClose => 0x15
  | .programOpen => 0x0B
  | .programClose => 0x1B
  | .eraseOpen => 0x0E
  | .eraseClose => 0x1E
  | .status => 0x0C
  | .moduleReset => 0x0F
  | .suspend => 0x06
  | .resume => 0x07
  | .identify => 0x09
  | .columnMove => 0x0A

/-- The twelve codes of the table. -/
def ChannelCode.all : List ChannelCode :=
  [.readOpen, .readClose, .programOpen, .programClose, .eraseOpen, .eraseClose,
   .status, .moduleReset, .suspend, .resume, .identify, .columnMove]

/-- The code a byte spells, if any (R196). -/
def channelCodeOf (b : Byte) : Option ChannelCode := ChannelCode.all.find? fun c => decide (c.byte = b)

/-- The open codes of R2. -/
def ChannelCode.isOpenCode : ChannelCode → Bool
  | .readOpen => true
  | .programOpen => true
  | .eraseOpen => true
  | .status => true
  | .moduleReset => true
  | .suspend => true
  | .resume => true
  | .identify => true
  | .readClose => false
  | .programClose => false
  | .eraseClose => false
  | .columnMove => false

/-- The kind of sequence a close code closes. -/
def ChannelCode.closes : ChannelCode → Option SeqKind
  | .readClose => some .read
  | .programClose => some .program
  | .eraseClose => some .erase
  | .readOpen => none
  | .programOpen => none
  | .eraseOpen => none
  | .status => none
  | .moduleReset => none
  | .suspend => none
  | .resume => none
  | .identify => none
  | .columnMove => none

/-- The open code of a sequence kind, as forwarded to the module. -/
def SeqKind.openCode : SeqKind → ChannelCode
  | .read => .readOpen
  | .program => .programOpen
  | .erase => .eraseOpen
  | .identify => .identify
  | .status => .status

/-! ### Latched addresses (R3, R196) -/

/-- Address cycles the kind requires (R3). -/
def SeqKind.addressCycles : SeqKind → Nat
  | .read => 5
  | .program => 5
  | .erase => 3
  | .identify => 1
  | .status => 0

/-- A column from its two cycles, low byte first (R196). -/
def columnOf (low high : Byte) : BitVec 16 := high ++ low

/-- The row number from its three cycles, low byte first, bits 23–18 ignored (R196). -/
def rowOf (low mid high : Byte) : BitVec 18 := ((high ++ mid ++ low : BitVec 24)).truncate 18

/-- The page of a row: bits 6–0 (R196). -/
def rowPage (r : BitVec 18) : BitVec 7 := r.extractLsb' 0 7

/-- The block of a row: bits 17–7 (R196). -/
def rowBlock (r : BitVec 18) : BitVec 11 := r.extractLsb' 7 11

/-- A latched page or block address. -/
structure LatchedAddr where
  column : Nat
  block : BitVec 11
  page : BitVec 7
  deriving DecidableEq, Repr

/-- The address in a sequence's latched cycles: two column and three row cycles for a page operation, three row cycles for an
erase (1.1, R196). An IDENTIFY names no page. -/
def latchedAddr (kind : SeqKind) (bs : List Byte) : LatchedAddr :=
  match kind, bs with
  | .read, [c0, c1, r0, r1, r2] => ⟨(columnOf c0 c1).toNat, rowBlock (rowOf r0 r1 r2), rowPage (rowOf r0 r1 r2)⟩
  | .program, [c0, c1, r0, r1, r2] => ⟨(columnOf c0 c1).toNat, rowBlock (rowOf r0 r1 r2), rowPage (rowOf r0 r1 r2)⟩
  | .erase, [r0, r1, r2] => ⟨0, rowBlock (rowOf r0 r1 r2), rowPage (rowOf r0 r1 r2)⟩
  | _, _ => ⟨0, 0, 0⟩

/-- The address of the open sequence. -/
def Seq.addr (q : Seq) : LatchedAddr := latchedAddr q.kind q.latched

/-- The cycles of a COLUMN MOVE on the module port (1.1, R196). -/
def columnMoveCycles (k : ModuleId) (col : BitVec 16) : List ModuleCycle :=
  [.code k ChannelCode.columnMove.byte, .addr k (col.truncate 8), .addr k (col.extractLsb' 8 8)]

/-- The service block number named by SVC_SEL (R162). -/
def serviceBlock (sel : BitVec 2) : BitVec 11 := BitVec.ofNat 11 (2047 - sel.toNat)

/-! ### Sensor words (R43) -/

/-- A 16-bit two's-complement word, high byte first. -/
def axisWord (high low : Byte) : Int := (high ++ low : BitVec 16).toInt

/-- The new-data bit: the most significant bit of the status byte. -/
def replyNewData (r : SensorReply) : Bool := r.status.getLsbD 7

/-- The raw axis words of a reply. -/
def replyX (r : SensorReply) : Int := axisWord r.xHigh r.xLow
def replyY (r : SensorReply) : Int := axisWord r.yHigh r.yLow
def replyZ (r : SensorReply) : Int := axisWord r.zHigh r.zLow

/-! ### The settings table (R181 to R184) -/

/-- The stored value of a setting. -/
def Settings.get (t : Settings) : SettingId → Int
  | .window => t.window
  | .fallLevel => t.fallLevel
  | .fallExit => t.fallExit
  | .fallConfirm => t.fallConfirm
  | .impactLevel => t.impactLevel
  | .restLow => t.restLow
  | .restHigh => t.restHigh
  | .settleCount => t.settleCount
  | .holdLimit => t.holdLimit
  | .accGainX => t.accGainX
  | .accGainY => t.accGainY
  | .accGainZ => t.accGainZ
  | .accOffsetX => t.accOffsetX
  | .accOffsetY => t.accOffsetY
  | .accOffsetZ => t.accOffsetZ
  | .capacity => t.capacity
  | .reserve => t.reserve
  | .critMv => t.critMv
  | .curGain => t.curGain
  | .curOffset => t.curOffset
  | .attnEnable => t.attnEnable
  | .dozeDelay => t.dozeDelay
  | .counterClearOnRead => t.counterClearOnRead

/-- The table with one stored value replaced. -/
def Settings.set (t : Settings) (i : SettingId) (v : Int) : Settings :=
  match i with
  | .window => { t with window := v }
  | .fallLevel => { t with fallLevel := v }
  | .fallExit => { t with fallExit := v }
  | .fallConfirm => { t with fallConfirm := v }
  | .impactLevel => { t with impactLevel := v }
  | .restLow => { t with restLow := v }
  | .restHigh => { t with restHigh := v }
  | .settleCount => { t with settleCount := v }
  | .holdLimit => { t with holdLimit := v }
  | .accGainX => { t with accGainX := v }
  | .accGainY => { t with accGainY := v }
  | .accGainZ => { t with accGainZ := v }
  | .accOffsetX => { t with accOffsetX := v }
  | .accOffsetY => { t with accOffsetY := v }
  | .accOffsetZ => { t with accOffsetZ := v }
  | .capacity => { t with capacity := v }
  | .reserve => { t with reserve := v }
  | .critMv => { t with critMv := v }
  | .curGain => { t with curGain := v }
  | .curOffset => { t with curOffset := v }
  | .attnEnable => { t with attnEnable := v }
  | .dozeDelay => { t with dozeDelay := v }
  | .counterClearOnRead => { t with counterClearOnRead := v }

/-- The settings in id order: id 1 first (R181). -/
def SettingId.all : List SettingId :=
  [.window, .fallLevel, .fallExit, .fallConfirm, .impactLevel, .restLow, .restHigh, .settleCount, .holdLimit,
   .accGainX, .accGainY, .accGainZ, .accOffsetX, .accOffsetY, .accOffsetZ,
   .capacity, .reserve, .critMv, .curGain, .curOffset, .attnEnable, .dozeDelay, .counterClearOnRead]

/-- The setting an id names: 1 to 23 (R168, R181). -/
def SettingId.ofId (n : Nat) : Option SettingId := if n = 0 then none else SettingId.all[n - 1]?

/-- The range of a setting under the table `t`, whose FALL_LEVEL and REST_LOW set the lower ends of their dependents (R181,
R184). For WINDOW these are the ends of its three sizes. -/
def SettingId.range (t : Settings) : SettingId → Int × Int
  | .window => (8, 32)
  | .fallLevel => (0, 255)
  | .fallExit => (t.fallLevel + 1, 511)
  | .fallConfirm => (1, 255)
  | .impactLevel => (256, 6144)
  | .restLow => (0, 1023)
  | .restHigh => (t.restLow + 1, 2047)
  | .settleCount => (16, 4095)
  | .holdLimit => (100, 5000)
  | .accGainX => (0, 2047)
  | .accGainY => (0, 2047)
  | .accGainZ => (0, 2047)
  | .accOffsetX => (-256, 255)
  | .accOffsetY => (-256, 255)
  | .accOffsetZ => (-256, 255)
  | .capacity => (100, 40000)
  | .reserve => (0, 5000)
  | .critMv => (2800, 3600)
  | .curGain => (0, 32767)
  | .curOffset => (-512, 511)
  | .attnEnable => (0, 255)
  | .dozeDelay => (100, 60000)
  | .counterClearOnRead => (0, 1)

/-- Whether a value is allowed for a setting under the table `t` (R181). -/
def SettingId.allows (t : Settings) (i : SettingId) (v : Int) : Bool :=
  match i with
  | .window => decide (v = 8) || decide (v = 16) || decide (v = 32)
  | j => decide ((j.range t).1 ≤ v) && decide (v ≤ (j.range t).2)

/-- The value SET SETTING stores for a value given (R183, R184). -/
def SettingId.bring (t : Settings) (i : SettingId) (v : Int) : Int :=
  match i with
  | .window => if v ≤ 8 then 8 else if v ≤ 16 then 16 else 32
  | j => clampInt (j.range t).1 (j.range t).2 v

/-- The table after storing `v` for the setting, with the dependent setting raised above it where it is not yet (R184). -/
def Settings.store (t : Settings) (i : SettingId) (v : Int) : Settings :=
  match i with
  | .fallLevel => { t.set i v with fallExit := max t.fallExit (v + 1) }
  | .restLow => { t.set i v with restHigh := max t.restHigh (v + 1) }
  | j => t.set j v

/-- Every stored value lies inside its setting's range and the two pairs keep their order (R182, R184). -/
def Settings.wf (t : Settings) : Bool := SettingId.all.all fun i => i.allows t (t.get i)

/-- The number of settings two tables store differently (R174). -/
def Settings.changes (old new : Settings) : Nat := (SettingId.all.filter fun i => decide (old.get i ≠ new.get i)).length

/-- The enable mask ATTN_ENABLE as bits (R179). -/
def Settings.enableMask (t : Settings) : BitVec 8 := BitVec.ofInt 8 t.attnEnable

/-! ### Command frames (R163, R165, R198) -/

/-- The command codes. -/
inductive CmdCode where
  | setSetting | modifyAttention | setStamp | setCharge | markFull
  | releaseSuspect | clearShockLog | releaseHolds | clearCounters | restoreDefaults
  deriving DecidableEq, Repr

/-- The command a code byte names (R163). -/
def CmdCode.ofByte (b : Byte) : Option CmdCode :=
  match b.toNat with
  | 1 => some .setSetting
  | 2 => some .modifyAttention
  | 3 => some .setStamp
  | 4 => some .setCharge
  | 5 => some .markFull
  | 6 => some .releaseSuspect
  | 7 => some .clearShockLog
  | 8 => some .releaseHolds
  | 9 => some .clearCounters
  | 10 => some .restoreDefaults
  | _ => none

/-- Place `i` of a frame. -/
def place (f : List Byte) (i : Nat) : Byte := f.getD i 0xFF

/-- The unsigned argument in places `i` to `i + 3`, high byte first (R163). -/
def arg32 (f : List Byte) (i : Nat) : Nat := ofBe [place f i, place f (i + 1), place f (i + 2), place f (i + 3)]

/-- The signed argument in places `i` to `i + 3` (R163). -/
def argInt32 (f : List Byte) (i : Nat) : Int := (BitVec.ofNat 32 (arg32 f i)).toInt

/-- What RELEASE SUSPECT selects (R152, R172). -/
inductive SuspectSelector where
  | one (key : SuspectKey)
  | all
  deriving DecidableEq, Repr

/-- The selector of a RELEASE SUSPECT frame, absent where it is unacceptable (R172). -/
def frameSelector (f : List Byte) : Option SuspectSelector :=
  match (place f 4).toNat with
  | 1 =>
    let block := ofBe [place f 6, place f 7]
    let page := (place f 8).toNat
    match ModuleId.ofNat? (place f 5).toNat with
    | none => none
    | some m =>
      if 2047 < block then none
      else if page = 255 then some (.one ⟨m, BitVec.ofNat 11 block, none⟩)
      else if 127 < page then none
      else some (.one ⟨m, BitVec.ofNat 11 block, some (BitVec.ofNat 7 page)⟩)
  | 2 => some .all
  | _ => none

/-- Whether the arguments the command reads are acceptable to it (R165, R168, R172). -/
def argsAcceptable (f : List Byte) : CmdCode → Bool
  | .setSetting => (SettingId.ofId (place f 4).toNat).isSome
  | .releaseSuspect => (frameSelector f).isSome
  | .modifyAttention => true
  | .setStamp => true
  | .setCharge => true
  | .markFull => true
  | .clearShockLog => true
  | .releaseHolds => true
  | .clearCounters => true
  | .restoreDefaults => true

end Sys2Proof.Machine
end

