-- ==== Sys2Proof/Decode.lean ====
section
/-! DEFINITION. Reading a command from its code on the channel: R196 gives each code its byte, and a word of one code byte, or of a
COLUMN MOVE with its two cycles, spells that code's command. -/

namespace Sys2Proof

/-- The command of each code of R196; a COLUMN MOVE brings its column with its two cycles (log 6). -/
def Machine.ChannelCode.command (col : BitVec 16) : Machine.ChannelCode → Instr
  | .readOpen => .readOpen
  | .readClose => .readClose
  | .programOpen => .programOpen
  | .programClose => .programClose
  | .eraseOpen => .eraseOpen
  | .eraseClose => .eraseClose
  | .status => .status
  | .moduleReset => .moduleReset
  | .suspend => .suspend
  | .resume => .resume
  | .identify => .identify
  | .columnMove => .columnMove col

/-- The command that a code byte on the drive port picks: its code's by the table of R196, and for a byte outside the table the
code with no place (R3). -/
def codeCommand (c : Byte) (col : BitVec 16) : Instr :=
  match Machine.channelCodeOf c with
  | some code => code.command col
  | none => .unplacedCode c

/-- The command a word of `nbits` bits spells, by the code table of R196: 8 bits are a code byte, and 24 bits are a COLUMN MOVE with
its two column cycles, the low byte first. A code byte of 8 bits has its later bits 0, so a COLUMN MOVE's then names column 0. No
other length is a code of the channel: the rows of spec/opcode_table.json that are no codes have no bits (log 2). -/
def decodeTableWord (nbits w : Nat) : Option Instr :=
  if nbits = 8 ∧ w < 256 then some (codeCommand (BitVec.ofNat 8 w) 0)
  else if nbits = 24 ∧ w < 16777216 ∧ w % 256 = 0x0A then some (.columnMove (BitVec.ofNat 16 (w / 256)))
  else none

/-- `s` with the command that a code byte of the drive port picks waiting behind the others (R196; log 32). -/
def Machine.State.presentCode (s : Machine.State) (c : Byte) (col : BitVec 16) : Machine.State :=
  { s with pending := s.pending ++ [codeCommand c col] }

end Sys2Proof
end

