-- ==== Sys2Proof/Machine/Flags.lean ====
section
/-! DEFINITION. The conditions, flags and level outputs computed from the state: battery level, upstream view, WAIT, ATTN#,
idle time, status bytes and the codes the formats give to names. -/

namespace Sys2Proof.Machine

/-! ### Battery (R110, R116, R118) -/

/-- FULL in µC: CAPACITY times 3,600,000 (R110). -/
def Settings.full (t : Settings) : Nat := t.capacity.toNat * Config.microCoulombPerMah

/-- The charge below which the charge condition is entered, in µC (6.7). -/
def Settings.reserveCharge (t : Settings) : Nat := t.reserve.toNat * Config.microCoulombPerMah

/-- The battery level, from the two conditions (R118). -/
def Gauge.level (g : Gauge) : Level :=
  if g.voltageLow then .critical else if g.chargeLow then .reserve else .normal

/-- State of charge in permille (R116). -/
def State.permille (s : State) : Nat := s.gauge.q * 1000 / s.ret.settings.full

/-- Remaining charge in mAh (R116). -/
def State.remainingMah (s : State) : Nat := s.gauge.q / Config.microCoulombPerMah

/-- Current in mA, truncated toward zero (R116). -/
def State.currentMa (s : State) : Int := s.gauge.iCal.tdiv 10

/-- Voltage average in mV: the floor of the sum divided by 16 (R117). -/
def Gauge.vAverage (g : Gauge) : Nat := g.vSum / Config.voltagePlaces

/-! ### Motion (R53, R84) -/

/-- The window average A: the floor of S divided by N (R53). -/
def FrontEnd.average (f : FrontEnd) : Nat := f.sum / f.window.length

/-- FALLING, STRUCK or SETTLING: the monitor states in which a confirm is held (R84, R87). -/
def MonState.isAway : MonState → Bool
  | .calm => false
  | .falling => true
  | .struck => true
  | .settling => true
  | .blind => false

/-! ### Upstream view (R8, R10) -/

/-- Slot k is live. -/
def State.slotIsLive (s : State) (k : ModuleId) : Bool := (s.slotLive k).state.isLive

/-- A STATUS_CHECK for module k is pending in the insert queue or running. -/
def State.checkPending (s : State) (k : ModuleId) : Bool := s.isQueued k .statusCheck || s.isRunning k .statusCheck

/-- Module k's view shows busy (R10). A confirm is decided within one command, so its condition holds in no state. -/
def State.viewBusy (s : State) (k : ModuleId) : Bool :=
  s.slotIsLive k || s.checkPending k || (s.relay.readBusy.get k).isSome || (s.relay.resetBusy.get k).isSome
    || (s.relay.residual.get k).isSome || (decide (k = .m0) && s.svc.processing.isSome)

/-- The RB line the part drives for module k on the drive port, `true` where it shows busy; an absent module's shows ready
(R10, R12). -/
def State.rbShowsBusy (s : State) (k : ModuleId) : Bool := s.present k && s.viewBusy k

/-- WAIT (R19). A confirm is decided within one command, so that cause holds in no state. -/
def State.wait (s : State) : Bool :=
  match s.phase with
  | .running => s.arb.running.isSome || s.arb.wakeWait
  | .inReset _ => true
  | .unpowered => false

/-- ATTN# is driven low: a pending cause is enabled (R180). -/
def State.attnLow (s : State) : Bool :=
  match s.phase with
  | .running => decide (s.causes &&& s.ret.settings.enableMask ≠ 0)
  | .inReset _ => false
  | .unpowered => false

/-- A status byte the part answers itself: READY in bit 7, FAIL in bit 0, the rest 0 (R196). -/
def statusByte (ready fail : Bool) : Byte :=
  (if ready then 0x80 else 0x00) ||| (if fail then 0x01 else 0x00)

/-- READY, FAIL and SUSPENDED of a status byte (R196). -/
def statusReady (b : Byte) : Bool := b.getLsbD 7
def statusFail (b : Byte) : Bool := b.getLsbD 0
def statusSuspended (b : Byte) : Bool := b.getLsbD 6

/-- The answer to a STATUS to module k (R8, R12). -/
def State.statusAnswer (s : State) (k : ModuleId) : StatusAnswer :=
  if !s.present k then .byPart (statusByte true true)
  else if s.slotIsLive k || s.checkPending k then .byPart (statusByte false false)
  else if s.relay.readyFail.get k then .byPart (statusByte true true)
  else if decide (k = .m0) && s.svc.processing.isSome then .byPart (statusByte false false)
  else if decide (k = .m0) && s.relay.serviceAnswer then .byPart (statusByte true false)
  else .fromModule

/-- The modules whose CE# is asserted. -/
def State.asserted (s : State) : List ModuleId := ModuleId.all.filter fun k => s.ce.get k

/-! ### Doze (R188, R189) -/

/-- The idle time in ms, saturating at 65535: held at 0 in DOZE and while a drive sequence is open (R188). -/
def State.idleMs (s : State) : Nat :=
  if s.doze.dozing || s.relay.seq.isSome then 0 else min (s.ms - s.doze.idleFromMs) 65535

/-- The conditions of doze entry but for the idle time (R189). -/
def State.quiet (s : State) : Bool :=
  !s.doze.dozing && s.relay.seq.isNone && s.svc.processing.isNone && decide (s.mon.state = .calm)
    && ModuleId.all.all (fun k => !s.slotIsLive k)
    && s.arb.queue.isEmpty && s.arb.running.isNone
    && ModuleId.all.all (fun k => (s.relay.readBusy.get k).isNone && (s.relay.resetBusy.get k).isNone
        && (s.relay.residual.get k).isNone)
    && !s.wait

/-- All the conditions of doze entry hold (R189). -/
def State.mayDoze (s : State) : Bool := s.quiet && decide (s.ret.settings.dozeDelay ≤ (s.idleMs : Int))

/-! ### Codes of the formats (R195) -/

def Level.code : Level → Nat
  | .normal => 0
  | .reserve => 1
  | .critical => 2

def MonState.code : MonState → Nat
  | .calm => 0
  | .falling => 1
  | .struck => 2
  | .settling => 3
  | .blind => 4

def SlotState.code : SlotState → Nat
  | .free => 0
  | .held => 1
  | .issued => 2
  | .suspended => 3

def SlotStep.code : SlotStep → Nat
  | .waiting => 1
  | .releaseQueued => 2
  | .releasing => 3
  | .busy => 4
  | .suspending => 5
  | .checking => 6
  | .parked => 7
  | .resuming => 8
  | .rechecking => 9

def OpKind.code : OpKind → Nat
  | .program => 1
  | .erase => 2

def ReleaseCause.code : ReleaseCause → Nat
  | .settled => 1
  | .holdLimit => 2
  | .forced => 3
  | .critical => 4
  | .blind => 5

def SlotOutcome.code : SlotOutcome → Nat
  | .done => 1
  | .failed => 2
  | .timedOut => 3
  | .refused => 4
  | .withdrawn => 5
  | .aborted => 6
  | .torn => 7
  | .lost => 8

def ShockKind.code : ShockKind → Nat
  | .fall => 1
  | .drop => 2
  | .knock => 3
  | .dropout => 4
  | .blind => 5

def Axis.code : Axis → Nat
  | .x => 0
  | .y => 1
  | .z => 2

/-- The code of a reason, which rises with severity (R195). -/
def Reason.code : Reason → Nat
  | .exposed => 1
  | .aborted => 2
  | .timedOut => 3
  | .failed => 4
  | .lost => 5
  | .torn => 6
  | .mismatch => 7
  | .misplaced => 8

def Verdict.code : Verdict → Nat
  | .isOpen => 0
  | .damaged => 1

def InsertKind.code : InsertKind → Nat
  | .statusCheck => 1
  | .suspend => 2
  | .resume => 3
  | .release => 4

def CmdResult.code : CmdResult → Nat
  | .accepted => 0
  | .clamped => 1
  | .malformed => 2
  | .unknown => 3
  | .notFound => 4

end Sys2Proof.Machine
end

