-- ==== Sys2Proof/Machine/ShockLog.lean ====
section
/-! DEFINITION. The shock log: creation, overwriting, change, close and clearing of records (R155 to R160). -/

namespace Sys2Proof.Machine

/-- A record as its creator fills it, before the log numbers it (R69, R135). -/
def State.newShock (s : State) (kind : ShockKind) (duration strikes exposed held : Nat) : ShockRec where
  number := 0
  kind := kind
  stamp := s.clock.stamp
  duration := duration
  peak := none
  saturated := false
  strikes := strikes
  charge := s.permille
  exposed := exposed
  held := held
  isOpen := true

/-- The log creates a record and numbers it (R156), overwriting the oldest when the ring is full (R157) and refusing when the
epoch is exhausted (R159, number 0). Outside reconciliation (`raises`) the causes are raised. -/
def State.createShock (s : State) (r : ShockRec) (raises : Bool) : State × Nat :=
  if s.ret.epoch < Config.maxWord32 then
    let n := s.ret.epoch + 1
    let isFull := decide (Config.shockPlaces ≤ s.ret.shocks.length)
    let kept := if isFull then s.ret.shocks.tail else s.ret.shocks
    let s1 := s.onRet fun m =>
      { m with
        shocks := kept ++ [{ r with number := n }]
        epoch := n
        overwritten := if isFull then grow16 m.overwritten else m.overwritten }
    let s2 := if raises then s1.raise .shock else s1
    (if raises && isFull then s2.raise .listFull else s2, n)
  else
    let s1 := s.onRet fun m => { m with overwritten := grow16 m.overwritten }
    (if raises then s1.raise .listFull else s1, 0)

/-- The record numbered `n`, if the log holds it and it is open, is changed (R158). -/
def State.changeShock (s : State) (n : Nat) (f : ShockRec → ShockRec) : State :=
  s.onRet fun m => { m with shocks := m.shocks.map fun r => if r.number = n ∧ r.isOpen then f r else r }

/-- The monitor's open record, if it has one, is changed; in an exhausted log nothing carries its number (R159). -/
def State.changeOpenRec (s : State) (f : ShockRec → ShockRec) : State :=
  match s.mon.openRec with
  | some n => s.changeShock n f
  | none => s

/-- The open flag is cleared (R71, R158). -/
def ShockRec.close (r : ShockRec) : ShockRec := { r with isOpen := false }

/-- The monitor's open record closes (R71). -/
def State.closeOpenRec (s : State) : State :=
  (s.changeOpenRec ShockRec.close).onMon fun m => { m with openRec := none }

/-- CLEAR SHOCK LOG through number `n`: the state and the number of records removed (R160). -/
def State.clearShocks (s : State) (n : Nat) : State × Nat :=
  let kept := s.ret.shocks.filter fun r => r.isOpen || decide (n < r.number)
  (s.onRet fun m => { m with shocks := kept, overwritten := 0 }, s.ret.shocks.length - kept.length)

end Sys2Proof.Machine
end

