-- ==== Sys2Proof/Machine/Suspects.lean ====
section
/-! DEFINITION. The suspect list: entry requests, merging, read reports and removal (R142 to R152). -/

namespace Sys2Proof.Machine

/-- The outcome of a settled read check (R38, R39). -/
inductive ReadOutcome where
  | empty
  | untagged
  | misplaced
  | mismatch
  | matched
  | skipped
  deriving DecidableEq, Repr

/-- The counter of an outcome (R40). -/
def ReadOutcome.counter : ReadOutcome → CounterId
  | .empty => .empty
  | .untagged => .untagged
  | .misplaced => .misplaced
  | .mismatch => .mismatch
  | .matched => .matched
  | .skipped => .skipped

/-- The entry with a key, if the list holds one. -/
def findSuspect (l : List Suspect) (key : SuspectKey) : Option Suspect := l.find? fun e => decide (e.key = key)

/-- The list with the entry of a key replaced in its place (R142). -/
def replaceSuspect (l : List Suspect) (e : Suspect) : List Suspect := l.map fun x => if x.key = e.key then e else x

/-- The merge of a request into the entry that holds its key (R145): the fields of one side, whole. -/
def mergeSuspect (entry req : Suspect) : Suspect := if entry.reason.code ≤ req.reason.code then req else entry

/-- The list and the overflow count after an entry request, and whether the request was dropped (R144, R145). -/
def addSuspect (l : List Suspect) (overflow : Nat) (req : Suspect) : List Suspect × Nat × Bool :=
  match findSuspect l req.key with
  | some e => (replaceSuspect l (mergeSuspect e req), overflow, false)
  | none =>
    if l.length < Config.suspectPlaces then (l ++ [req], overflow, false)
    else (l, min (overflow + 1) 255, true)

/-- An entry request handed to the list. Outside reconciliation (`raises`) a dropped request raises LIST_FULL, and a dropped
DAMAGED request or a new DAMAGED entry raises INTEGRITY (R144, R149, R150). -/
def State.handRequest (s : State) (req : Suspect) (raises : Bool) : State :=
  let isNew := (findSuspect s.ret.suspects req.key).isNone
  let r := addSuspect s.ret.suspects s.ret.overflow req
  let s1 := s.onRet fun m => { m with suspects := r.1, overflow := r.2.1 }
  let s2 := if raises && r.2.2 then s1.raise .listFull else s1
  if raises && isNew && decide (req.verdict = .damaged) then s2.raise .integrity else s2

/-- The verdict of the entry `e` becomes DAMAGED, with the fields of `fields`; INTEGRITY is raised if it was OPEN (R147, R148,
R150). -/
def State.damage (s : State) (e fields : Suspect) : State :=
  let s1 := s.onRet fun m => { m with suspects := replaceSuspect m.suspects { fields with verdict := .damaged } }
  match e.verdict with
  | .isOpen => s1.raise .integrity
  | .damaged => s1

/-- Removes the entry of a key; the rest close up (R142). -/
def State.removeSuspect (s : State) (key : SuspectKey) : State :=
  s.onRet fun m => { m with suspects := m.suspects.filter fun e => decide (e.key ≠ key) }

/-- Whether a MATCH of the page vouches for an entry of this reason (R146). -/
def Reason.matchRemoves : Reason → Bool
  | .exposed => true
  | .aborted => true
  | .timedOut => true
  | .failed => true
  | .torn => true
  | .lost => false
  | .mismatch => false
  | .misplaced => false

/-- A read report taken by the list (R146 to R149): `key` names the page read, `ws` is the write sequence found in the tag. -/
def State.readReport (s : State) (o : ReadOutcome) (key : SuspectKey) (ws : Option Nat) : State :=
  let found (r : Reason) : Suspect :=
    { key := key, reason := r, verdict := .damaged, writeSeq := ws, shock := none, stamp := s.clock.stamp }
  match findSuspect s.ret.suspects key with
  | some e =>
    match o with
    | .matched => if e.reason.matchRemoves then s.removeSuspect key else s
    | .mismatch => s.damage e (mergeSuspect e (found .mismatch))
    | .misplaced => s.damage e (mergeSuspect e (found .misplaced))
    | .untagged => s.damage e e
    | .empty => if e.reason = .lost then s else s.damage e e
    | .skipped => s
  | none =>
    match o with
    | .mismatch => s.handRequest (found .mismatch) true
    | .misplaced => s.handRequest (found .misplaced) true
    | .matched => s
    | .untagged => s
    | .empty => s
    | .skipped => s

/-- Removes every entry of a module's block, the block entry and the page entries (R103, R151). -/
def State.removeBlock (s : State) (k : ModuleId) (block : BitVec 11) : State :=
  s.onRet fun m => { m with suspects := m.suspects.filter fun e => !(decide (e.key.module = k) && decide (e.key.block = block)) }

/-- RELEASE SUSPECT by its selector (R152): the state and the number of entries removed; no number where ONE finds none. -/
def State.releaseSuspects (s : State) : SuspectSelector → State × Option Nat
  | .one key =>
    match findSuspect s.ret.suspects key with
    | some _ => (s.removeSuspect key, some 1)
    | none => (s, none)
  | .all => (s.onRet fun m => { m with suspects := [], overflow := 0 }, some s.ret.suspects.length)

end Sys2Proof.Machine
end

