-- ==== Sys2Proof/Machine/Slots.lean ====
section
/-! DEFINITION. The operation slots: the confirm decision, exposure, release, suspension and resumption, the signals of the
monitor and of the gauge, and the close (R72 to R77, R83 to R103). -/

namespace Sys2Proof.Machine

/-! ### Health and override (R11, R14) -/

/-- Module k's answer override becomes READY-FAIL (R11). -/
def State.setReadyFail (s : State) (k : ModuleId) : State :=
  s.onRelay fun r => { r with readyFail := r.readyFail.set k true }

/-- A busy timeout of module k: STUCK, READY-FAIL, TIMEOUT grown, and MODULE raised if health was OK (R9, R13, R14, R15). -/
def State.makeStuck (s : State) (k : ModuleId) : State :=
  let s1 := if s.relay.stuck.get k then s else s.raise .moduleStuck
  ((s1.onRelay fun r => { r with stuck := r.stuck.set k true }).setReadyFail k).count .timeout

/-! ### Counts of the open record and exposure (R72, R73) -/

/-- Slot k has become HELD while a record is open: its module is counted once (R72). -/
def State.countHeld (s : State) (k : ModuleId) : State :=
  if s.mon.openRec.isNone || s.mon.heldCounted.contains k then s
  else (s.changeOpenRec fun r => { r with held := r.held + 1 }).onMon fun m => { m with heldCounted := m.heldCounted ++ [k] }

/-- Slot k has been marked exposed to the open record: its module is counted once (R72). -/
def State.countExposed (s : State) (k : ModuleId) : State :=
  if s.mon.exposedCounted.contains k then s
  else (s.changeOpenRec fun r => { r with exposed := r.exposed + 1 }).onMon fun m =>
    { m with exposedCounted := m.exposedCounted ++ [k] }

/-- Slot k is marked exposed to the monitor's open record at an offset in ms; an exposure it already carries stays (R73). -/
def State.markExposed (s : State) (k : ModuleId) (offset : Nat) : State :=
  match s.mon.openRec, (s.slotRec k).exposure with
  | some n, none =>
    (s.setSlotRec k { s.slotRec k with exposure := some { record := n, offset := min offset 65535 } }).countExposed k
  | _, _ => s

/-! ### Releases (R86 to R92) -/

/-- A RELEASE request for slot k: appended for a slot in WAITING, the cause replaced in place for one in RELEASE_QUEUED, not
made in any other step (R86). -/
def State.releaseSlot (s : State) (k : ModuleId) (cause : ReleaseCause) : State :=
  let l := s.slotLive k
  match l.state, l.step with
  | .held, some .waiting =>
    (s.request k .release (some cause)).setSlotLive k { l with step := some .releaseQueued }
  | .held, some .releaseQueued => s.request k .release (some cause)
  | _, _ => s

/-- Slot k is HELD in WAITING. -/
def State.isWaiting (s : State) (k : ModuleId) : Bool :=
  decide ((s.slotLive k).state = .held) && decide ((s.slotLive k).step = some .waiting)

/-- The cause of slot k's queued RELEASE. -/
def State.queuedCause (s : State) (k : ModuleId) : Option ReleaseCause :=
  match queuedFor s.arb.queue k with
  | some e => if e.kind = .release then e.cause else none
  | none => none

/-- Slot k is HELD in RELEASE_QUEUED with a request of this cause. -/
def State.isQueuedWith (s : State) (k : ModuleId) (cause : ReleaseCause) : Bool :=
  decide ((s.slotLive k).state = .held) && decide ((s.slotLive k).step = some .releaseQueued)
    && decide (s.queuedCause k = some cause)

/-- The time slot k has been held, in ms, counted from its own hold start (R89). -/
def State.heldMs (s : State) (k : ModuleId) : Nat := s.ms - ((s.slotRec k).holdStart.getD s.ms)

/-- The hold of slot k, in WAITING, has lasted longer than HOLD_LIMIT (R89). -/
def State.holdOver (s : State) (k : ModuleId) : Bool :=
  s.isWaiting k && decide (s.ret.settings.holdLimit < (s.heldMs k : Int))

/-- The release at the hold limit (R89). -/
def State.breakHold (s : State) (k : ModuleId) : State :=
  ((s.releaseSlot k .holdLimit).count .holdBreaks).raise .holdBreak

/-- Every slot whose hold is over its limit is released, oldest hold first (R85, R89, R186). -/
def State.judgeHolds (s : State) : State :=
  s.releaseQueue.foldl (fun s k => if s.holdOver k then s.breakHold k else s) s

/-- RELEASE HOLDS on one slot: the state and whether the slot is counted (R90, R173). DEDUCED (log 20): one queued with cause FORCED
already is not counted. -/
def State.forceSlot (s : State) (k : ModuleId) : State × Nat :=
  let counted := s.isWaiting k
    || (decide ((s.slotLive k).state = .held) && decide ((s.slotLive k).step = some .releaseQueued)
        && decide (s.queuedCause k ≠ some .forced))
  (s.releaseSlot k .forced, if counted then 1 else 0)

/-- RELEASE HOLDS: every HELD slot, in release-queue order, and the number released (R90, R173). -/
def State.forceAll (s : State) : State × Nat :=
  s.releaseQueue.foldl (fun p k => let r := p.1.forceSlot k; (r.1, p.2 + r.2)) (s, 0)

/-! ### Closing (R101 to R103) -/

/-- The reason a closing slot hands the suspect list (R102). -/
def closeReason (o : SlotOutcome) (exposed : Bool) : Option Reason :=
  match o with
  | .done => if exposed then some .exposed else none
  | .failed => some .failed
  | .timedOut => some .timedOut
  | .aborted => some .aborted
  | .torn => some .torn
  | .lost => some .lost
  | .refused => none
  | .withdrawn => none

/-- The entry request of a slot's record for a reason: no write sequence of an erase or an untagged program, and the shock record
number with EXPOSED only (R102, R134). -/
def SlotRec.entry (r : SlotRec) (k : ModuleId) (reason : Reason) (stamp : Nat) : Suspect where
  key := r.key k
  reason := reason
  verdict := .isOpen
  writeSeq := if r.isErase || !r.tagged then none else r.writeSeq
  shock := if reason = .exposed then r.exposure.map Exposure.record else none
  stamp := stamp

/-- Slot k closes with an outcome: the record is written FREE with the busy time reached, the slot leaves the release queue,
its entry is handed, and a DONE erase without exposure clears its block (R101 to R103). -/
def State.closeSlot (s : State) (k : ModuleId) (o : SlotOutcome) : State :=
  let r := s.slotRec k
  let l := s.slotLive k
  let s1 := s.setSlotRec k { r with state := .free, last := some o, busyMs := l.busyMs s.ms }
  let s2 := s1.setSlotLive k
    { l with state := .free, step := none, issueMs := none, timerFrom := none, keptReturn := false }
  let s3 := s2.onReleaseQueue fun q => q.filter fun m => decide (m ≠ k)
  let s4 := match closeReason o r.exposure.isSome with
    | some reason => s3.handRequest (r.entry k reason s.clock.stamp) true
    | none => s3
  if o = .done ∧ r.isErase ∧ r.exposure.isNone then s4.removeBlock k (r.key k).block else s4

/-! ### The CRITICAL level (R91, R128) -/

/-- One slot at the level's entry into CRITICAL (R91). -/
def State.criticalSlot (s : State) (k : ModuleId) : State :=
  let l := s.slotLive k
  let r := s.slotRec k
  if l.state = .held ∧ (l.step = some .waiting ∨ l.step = some .releaseQueued) then
    let s1 :=
      if r.isErase then
        (((s.withdraw k).setSlotRec k { r with cause := some .critical }).closeSlot k .refused).setReadyFail k
          |>.count .refusedErases
      else s.releaseSlot k .critical
    (s1.count .holdBreaks).raise .holdBreak
  else s

/-- The level enters CRITICAL: the HELD slots are handled in release-queue order (R91). -/
def State.criticalEntry (s : State) : State := s.releaseQueue.foldl State.criticalSlot s

/-! ### Suspension and resumption (R93, R96) -/

/-- The monitor's SUSPEND request for slot k, made for an erase on its module or on its way there (R74, R93). -/
def State.suspendSlot (s : State) (k : ModuleId) : State :=
  let l := s.slotLive k
  if (s.slotRec k).isErase then
    match l.state, l.step with
    | .issued, some .busy =>
      (s.request k .suspend).setSlotLive k { l with step := some .suspending, suspendFlag := true }
    | .held, some .releasing => (s.request k .suspend).setSlotLive k { l with suspendFlag := true }
    | .suspended, some .resuming =>
      let step := if s.isQueued k .resume then SlotStep.rechecking else SlotStep.resuming
      (s.request k .suspend).setSlotLive k { l with step := some step, suspendFlag := true }
    | _, _ => s
  else s

/-- A RESUME request for slot k, made for a SUSPENDED erase in PARKED (R96). -/
def State.resumeSlot (s : State) (k : ModuleId) : State :=
  let l := s.slotLive k
  match l.state, l.step with
  | .suspended, some .parked => (s.request k .resume).setSlotLive k { l with step := some .resuming }
  | _, _ => s

/-! ### The monitor's signals (R73 to R77) -/

/-- The exposure of slot k at the departure from CALM (R73). -/
def State.exposeSlot (s : State) (k : ModuleId) : State :=
  let l := s.slotLive k
  match l.state, l.step with
  | .issued, _ => s.markExposed k (s.ms - l.issueMs.getD s.ms)
  | .suspended, _ => s.markExposed k (s.ms - l.issueMs.getD s.ms)
  | .held, some .releasing => s.markExposed k 0
  | _, _ => s

/-- A queued RELEASE of slot k with cause SETTLED or BLIND is withdrawn and the slot waits again (R75). -/
def State.withdrawRelease (s : State) (k : ModuleId) : State :=
  if s.isQueuedWith k .settled || s.isQueuedWith k .blind then
    (s.withdraw k).setSlotLive k { s.slotLive k with step := some .waiting }
  else s

/-- The signals at the departure from CALM for FALLING or STRUCK (R73 to R75); a slot returned to WAITING past its limit is
released at once (R89). -/
def State.departureSignals (s : State) : State :=
  let s1 := ModuleId.all.foldl State.exposeSlot s
  let s2 := ModuleId.all.foldl State.suspendSlot s1
  (ModuleId.all.foldl State.withdrawRelease s2).judgeHolds

/-- RESUME requests for the SUSPENDED erases (R76, R77). -/
def State.resumeAll (s : State) : State := ModuleId.all.foldl State.resumeSlot s

/-- The signals at the entry into CALM from SETTLING (R76). -/
def State.calmSignals (s : State) : State :=
  (s.releaseQueue.foldl (fun s k => if s.isWaiting k then s.releaseSlot k .settled else s) s).resumeAll

/-- The signals at the entry into BLIND (R77). -/
def State.blindSignals (s : State) : State :=
  (s.releaseQueue.foldl
    (fun s k => if s.isWaiting k || s.isQueuedWith k .settled then s.releaseSlot k .blind else s) s).resumeAll

/-! ### The confirm decision (R83, R84, R124 to R126) -/

/-- The relay's action on a confirm (R7). -/
inductive Decision where
  | issue
  | hold
  | refuse
  deriving DecidableEq, Repr

/-- Admission by kind and level (R124). -/
def admits (kind : OpKind) (level : Level) : Bool :=
  match kind, level with
  | .program, .normal => true
  | .program, .reserve => true
  | .program, .critical => false
  | .erase, .normal => true
  | .erase, .reserve => false
  | .erase, .critical => false

/-- What a confirm brings to its slot (R83). -/
structure Confirm where
  kind : OpKind
  block : BitVec 11
  page : Option (BitVec 7)
  tagged : Bool
  writeSeq : Option Nat
  deriving DecidableEq, Repr

/-- The record a slot makes of a confirm before it asks for admission (R83). -/
def SlotRec.take (r : SlotRec) (c : Confirm) : SlotRec :=
  { r with
    kind := some c.kind
    block := some c.block
    page := c.page
    tagged := c.tagged
    writeSeq := c.writeSeq
    holdStart := none
    cause := none
    exposure := none
    busyMs := 0 }

/-- The refusal counter of a kind (R126). -/
def OpKind.refusals : OpKind → CounterId
  | .program => .refusedPrograms
  | .erase => .refusedErases

/-- What the monitor's state makes of an admitted confirm (R84). -/
def confirmDecision (kind : OpKind) (level : Level) (mon : MonState) : Decision :=
  if admits kind level then (if mon.isAway then .hold else .issue) else .refuse

/-- Slot k takes a confirm and decides it (R83, R84, R125). -/
def State.takeConfirm (s : State) (k : ModuleId) (c : Confirm) : State :=
  let r := (s.slotRec k).take c
  let l := s.slotLive k
  match confirmDecision c.kind s.gauge.level s.mon.state with
  | .refuse =>
    (((s.setSlotRec k { r with state := .free, last := some .refused }).count c.kind.refusals).raise .refusal).setReadyFail k
  | .issue =>
    (s.setSlotRec k { r with state := .issued, level := some s.gauge.level }).setSlotLive k
      { l with state := .issued, step := some .busy, suspendFlag := false, issueMs := some s.ms, timerValue := 0,
               timerFrom := some s.ms, keptReturn := false }
  | .hold =>
    ((((s.setSlotRec k { r with state := .held, level := some s.gauge.level, holdStart := some s.ms }).setSlotLive k
      { l with state := .held, step := some .waiting, issueMs := none, timerValue := 0, timerFrom := none,
               keptReturn := false }).onReleaseQueue fun q => q ++ [k]).count .holds).countHeld k

end Sys2Proof.Machine
end

