-- ==== Sys2Proof/Machine/GaugeOps.lean ====
section
/-! DEFINITION. The battery gauge: calibration, charge accounting, the two conditions, the level and its hand-on, the retained
copy, and the commands and settings that act on it (R106 to R122). -/

namespace Sys2Proof.Machine

/-- The calibrated current of a raw reading (R108). `Int`'s division by a positive number is the floor. -/
def calibrateCurrent (t : Settings) (raw : Int) : Int :=
  clampInt (-32768) 32767 ((raw * t.curGain + 8192) / 16384 + t.curOffset)

/-- The quantum of a sample in µC, by the rate in force (R111). -/
def quantum (dozing : Bool) (iCal : Int) : Int := if dozing then iCal * 10 else iCal

/-- Q after a quantum, clamped to 0–FULL (R111). -/
def chargeAfter (full q : Nat) (quantum : Int) : Nat := (clampInt 0 full (q - quantum)).toNat

/-- The charge condition with hysteresis (R118). -/
def chargeCondition (t : Settings) (low : Bool) (q : Nat) : Bool :=
  if low then decide (q < t.reserveCharge + t.full / 100) else decide (q < t.reserveCharge)

/-- The voltage condition with hysteresis (R118). -/
def voltageCondition (t : Settings) (low : Bool) (average : Nat) : Bool :=
  if low then decide ((average : Int) < t.critMv + 100) else decide ((average : Int) < t.critMv)

/-- The charge condition judged afresh (R119). -/
def chargeAfresh (t : Settings) (q : Nat) : Bool := decide (q < t.reserveCharge)

/-- The voltage condition judged afresh (R119). -/
def voltageAfresh (t : Settings) (average : Nat) : Bool := decide ((average : Int) < t.critMv)

/-- A level that differs from `old` is handed on: BATTERY is raised, and an entry into CRITICAL signals the slots (R120). -/
def State.handLevel (s : State) (old : Level) : State :=
  if s.gauge.level = old then s
  else
    let s1 := s.raise .battery
    if s.gauge.level = .critical then s1.criticalEntry else s1

/-- Writes the retained copy of Q and its flags (R114). -/
def State.writeChargeCopy (s : State) : State :=
  s.onRet fun m => { m with chargeCopy := { q := s.gauge.q, underrun := s.gauge.underrun, unknown := s.gauge.unknown } }

/-- A current sample (R108, R111, R112, R118). -/
def State.takeCurrent (s : State) (raw : Int) : State :=
  let t := s.ret.settings
  let i := calibrateCurrent t raw
  let qu := quantum s.doze.dozing i
  let q := chargeAfter t.full s.gauge.q qu
  let s1 := s.onGauge fun g =>
    { g with
      iCal := i
      q := q
      underrun := g.underrun || (decide (0 < qu) && decide ((g.q : Int) < qu))
      chargeLow := chargeCondition t g.chargeLow q }
  s1.handLevel s.gauge.level

/-- A voltage sample (R117, R118). -/
def State.takeVoltage (s : State) (mv : Nat) : State :=
  let g := s.gauge
  let sum := g.vSum - g.vWindow.headD 0 + mv
  let s1 := s.onGauge fun g =>
    { g with
      vWindow := g.vWindow.tail ++ [mv]
      vSum := sum
      voltageLow := voltageCondition s.ret.settings g.voltageLow (sum / Config.voltagePlaces) }
  s1.handLevel g.level

/-- Q is set by a command: both flags clear, the copy is written and the charge condition is judged afresh (R121). -/
def State.putCharge (s : State) (q : Nat) : State :=
  let s1 := s.onGauge fun g =>
    { g with q := q, underrun := false, unknown := false, chargeLow := chargeAfresh s.ret.settings q }
  s1.writeChargeCopy.handLevel s.gauge.level

/-- The effects on the gauge of a change of the settings from `old` to those now stored (R115, R119, R122): the CAPACITY clamp
and copy first, then each condition whose terms changed is judged afresh, and one change of level is handed on. -/
def State.gaugeEffects (s : State) (old : Settings) : State :=
  let t := s.ret.settings
  let capacityChanged := decide (old.capacity ≠ t.capacity)
  let s1 :=
    if capacityChanged then (s.onGauge fun g => { g with q := min g.q t.full }).writeChargeCopy else s
  let s2 :=
    if capacityChanged || decide (old.reserve ≠ t.reserve) then
      s1.onGauge fun g => { g with chargeLow := chargeAfresh t g.q }
    else s1
  let s3 :=
    if old.critMv ≠ t.critMv then s2.onGauge fun g => { g with voltageLow := voltageAfresh t g.vAverage } else s2
  s3.handLevel s.gauge.level

end Sys2Proof.Machine
end

