-- ==== Sys2Proof/Machine/Battery.lean ====
section
/-! DEFINITION. The meanings of the gauge's samples and of its retained copy falling due (R106, R111, R114, R117). -/

namespace Sys2Proof.Machine

/-- CURRENT_SAMPLE_DUE (R106): a conversion starts, and the next due time is one period after this one. -/
def execCurrentSampleDue (s : State) : Host.Outcome State Fault Refusal :=
  .next (s.serving fun s =>
    (s.runTo s.gauge.nextCurrent).onGauge fun g =>
      { g with currentRunning := true, nextCurrent := g.nextCurrent + g.currentPeriod })

/-- CURRENT_SAMPLE_ARRIVAL (R111): the end of the running conversion. -/
def execCurrentSampleArrival (raw : BitVec 16) (s : State) : Host.Outcome State Fault Refusal :=
  .next (s.serving fun s =>
    if s.gauge.currentRunning then
      (s.onGauge fun g => { g with currentRunning := false }).takeCurrent raw.toInt
    else s)

/-- VOLTAGE_SAMPLE_DUE (R106). -/
def execVoltageSampleDue (s : State) : Host.Outcome State Fault Refusal :=
  .next (s.serving fun s =>
    (s.runTo s.gauge.nextVoltage).onGauge fun g =>
      { g with voltageRunning := true, nextVoltage := g.nextVoltage + Config.voltagePeriod })

/-- VOLTAGE_SAMPLE_ARRIVAL (R117). -/
def execVoltageSampleArrival (mv : BitVec 16) (s : State) : Host.Outcome State Fault Refusal :=
  .next (s.serving fun s =>
    if s.gauge.voltageRunning then
      (s.onGauge fun g => { g with voltageRunning := false }).takeVoltage mv.toNat
    else s)

/-- Q_COPY_DUE (R114). -/
def execQCopyDue (s : State) : Host.Outcome State Fault Refusal :=
  .next (s.serving fun s =>
    ((s.runTo s.gauge.nextCopy).onGauge fun g => { g with nextCopy := g.nextCopy + Config.copyPeriod }).writeChargeCopy)

end Sys2Proof.Machine
end

