-- ==== Sys2Proof/Machine/Crc.lean ====
section
/-! DEFINITION. The two check codes (R24, R25) and the check of a command frame (R165). -/

namespace Sys2Proof.Machine

/-- The CRC-32 register at the start (R24). -/
def crc32Start : BitVec 32 := 0xFFFFFFFF

/-- One shift of the CRC-32 register toward its low end (R24). -/
def crc32Shift (r : BitVec 32) : BitVec 32 :=
  if r.getLsbD 0 then (r >>> 1) ^^^ 0xEDB88320 else r >>> 1

/-- The CRC-32 register after one more byte (R24). -/
def crc32Byte (r : BitVec 32) (b : Byte) : BitVec 32 := times 8 crc32Shift (r ^^^ b.setWidth 32)

/-- The CRC-32 of a register that has taken its last byte (R24). -/
def crc32End (r : BitVec 32) : BitVec 32 := ~~~r

/-- The CRC-32 of a run of bytes (R24). -/
def crc32 (bs : List Byte) : BitVec 32 := crc32End (bs.foldl crc32Byte crc32Start)

/-- One shift of the CRC-16 register toward its high end (R25). -/
def crc16Shift (r : BitVec 16) : BitVec 16 :=
  if r.getLsbD 15 then (r <<< 1) ^^^ 0x1021 else r <<< 1

/-- The CRC-16 register after one more byte (R25). -/
def crc16Byte (r : BitVec 16) (b : Byte) : BitVec 16 := times 8 crc16Shift (r ^^^ (b.setWidth 16 <<< 8))

/-- The CRC-16 of a run of bytes (R25). -/
def crc16 (bs : List Byte) : BitVec 16 := bs.foldl crc16Byte 0xFFFF

/-- The check of a frame: the command it carries, or the result of the first check that fails (R165). -/
def checkFrame (f : List Byte) : Except CmdResult CmdCode :=
  if place f 0 ≠ 0xA7 ∨ place f 1 ≠ 0x3C then .error .malformed
  else if (crc16 (f.take 16)).toNat ≠ ofBe [place f 16, place f 17] then .error .malformed
  else
    match CmdCode.ofByte (place f 2) with
    | none => .error .unknown
    | some c => if argsAcceptable f c then .ok c else .error .malformed

end Sys2Proof.Machine
end

