-- ==== Sys2Proof/Machine/FrontEndOps.lean ====
section
/-! DEFINITION. The motion front end: calibration, L1, the window and its refills, and the sample report (R43 to R58). -/

namespace Sys2Proof.Machine

/-- The value of one axis before the clamp of R49. -/
def axisValue (raw gain offset : Int) : Int := (raw * gain + 512) / 1024 + offset

/-- The corrected value of one axis (R49). -/
def correctAxis (raw gain offset : Int) : Int := clampInt (-2048) 2047 (axisValue raw gain offset)

/-- Whether one axis makes a fresh sample saturated: a raw value at an end of its range, or the clamp acting (R50). -/
def axisSaturated (raw gain offset : Int) : Bool :=
  decide (raw = -2048) || decide (raw = 2047)
    || decide (axisValue raw gain offset < -2048) || decide (2047 < axisValue raw gain offset)

/-- The L1 magnitude (R52). -/
def l1Of (cx cy cz : Int) : Nat := cx.natAbs + cy.natAbs + cz.natAbs

/-- Whether a reply is fresh (R46). -/
def replyFresh (r : SensorReply) : Bool :=
  let inRange (v : Int) : Bool := decide (-2048 ≤ v) && decide (v ≤ 2047)
  decide (r.status ≠ 0xFF) && inRange (replyX r) && inRange (replyY r) && inRange (replyZ r) && replyNewData r

/-- The window with every place holding `v` (R55 to R57). -/
def FrontEnd.refill (f : FrontEnd) (n v : Nat) : FrontEnd :=
  { f with window := List.replicate n v, sum := v * n }

/-- A value joins the window as the newest and the oldest leaves (R53). -/
def FrontEnd.enter (f : FrontEnd) (v : Nat) : FrontEnd :=
  { f with window := f.window.tail ++ [v], sum := f.sum - f.window.headD 0 + v }

/-- The sample report (R58). -/
structure Report where
  fresh : Bool
  sample : Sample
  saturated : Bool
  average : Nat
  staleCount : Nat
  staleRun : Nat
  deriving DecidableEq, Repr

/-- The corrected sample of a fresh reply (R47, R49, R52). -/
def correctedSample (t : Settings) (r : SensorReply) : Sample :=
  let cx := correctAxis (replyX r) t.accGainX t.accOffsetX
  let cy := correctAxis (replyY r) t.accGainY t.accOffsetY
  let cz := correctAxis (replyZ r) t.accGainZ t.accOffsetZ
  { cx := cx, cy := cy, cz := cz, l1 := l1Of cx cy cz }

/-- Whether a fresh reply is saturated (R50). -/
def replySaturated (t : Settings) (r : SensorReply) : Bool :=
  axisSaturated (replyX r) t.accGainX t.accOffsetX || axisSaturated (replyY r) t.accGainY t.accOffsetY
    || axisSaturated (replyZ r) t.accGainZ t.accOffsetZ

/-- A fresh sample is processed (R47, R57): the front end after it and its report. -/
def FrontEnd.takeFresh (f : FrontEnd) (t : Settings) (r : SensorReply) : FrontEnd × Report :=
  let c := correctedSample t r
  let f1 := if Config.blindRun ≤ f.staleCount then f.refill f.window.length c.l1 else f
  let f2 := { f1.enter c.l1 with last := c, staleCount := 0 }
  (f2, { fresh := true, sample := c, saturated := replySaturated t r, average := f2.average, staleCount := 0,
         staleRun := f.staleCount })

/-- A stale sample is processed (R48): the front end after it and its report. -/
def FrontEnd.takeStale (f : FrontEnd) : FrontEnd × Report :=
  let f1 := { f.enter f.last.l1 with staleCount := grow16 f.staleCount }
  (f1, { fresh := false, sample := f.last, saturated := false, average := f1.average, staleCount := f1.staleCount,
         staleRun := 0 })

end Sys2Proof.Machine
end

