-- ==== Sys2Proof/Machine/DozeOps.lean ====
section
/-! DEFINITION. Doze control: the idle time and the changes of rate (R45, R56, R107, R188 to R191). -/

namespace Sys2Proof.Machine

/-- The idle time is set to 0 (R188). -/
def State.idleZero (s : State) : State := s.onDoze fun d => { d with idleFromMs := s.ms }

/-- The front end and the gauge take a new rate: due times one new period from now, the window refilled with its average (R45,
R56, R107). -/
def State.changeRate (s : State) (poll current : Nat) : State :=
  (s.onFe fun f =>
    { f.refill f.window.length f.average with pollPeriod := poll, nextPoll := s.now + poll }).onGauge fun g =>
    { g with currentPeriod := current, nextCurrent := s.now + current }

/-- The part wakes to ACTIVE (R190, R191). -/
def State.wake (s : State) : State :=
  ((s.onDoze fun d => { d with dozing := false }).idleZero).changeRate Config.pollActive Config.currentActive

/-- The part enters DOZE and the gauge writes its copy (R189, R107). -/
def State.fallAsleep (s : State) : State :=
  (((s.onDoze fun d => { d with dozing := true }).idleZero).changeRate Config.pollDoze Config.currentDoze).writeChargeCopy

/-- A departure of the monitor from CALM, reported to doze control (R78, R188, R191). -/
def State.departureWakes (s : State) : State := if s.doze.dozing then s.wake else s.idleZero

end Sys2Proof.Machine
end

