-- ==== Sys2Proof/Machine/ReportOps.lean ====
section
/-! DEFINITION. The report pages: their byte layouts, the snapshot and its side effects (R105, R154, R161, R175 to R178, R195,
R199, R200). -/

namespace Sys2Proof.Machine

/-- A code, or the code of an absent value. -/
def codeOr {α : Type} (f : α → Nat) (absent : Nat) : Option α → Byte
  | some a => byteOf (f a)
  | none => byteOf absent

/-- `n` free values, from index `i` (R199 gives those columns no content, log 7). -/
def freeBytes (i n : Nat) : List Byte := (List.range n).map fun j => Config.freeByte (i + j)

/-- `bs` followed by 0xFF up to `n` places (R199). -/
def padTo (n : Nat) (bs : List Byte) : List Byte := bs ++ List.replicate (n - bs.length) 0xFF

/-- The header of every page: the marker and the page number (R199). -/
def pageHeader (p : BitVec 7) : List Byte := [0xA7, 0x3C, p.setWidth 8]

/-- Page 1, the answer (R177, R199). -/
def answerContent (s : State) : List Byte :=
  (match s.svc.answer with
  | none => [0xFF, 0xFF, 0xFF, 0x00] ++ be32 Config.maxWord32
  | some a =>
    [a.frameNumber, a.code, byteOf a.result.code] ++
      (match a.applied with
      | none => 0x00 :: be32 Config.maxWord32
      | some v => 0x01 :: be32Int v)) ++ be16 s.svc.answerCount

/-- Bit `n` of a byte, set or clear. -/
def flagBit (n : Nat) (b : Bool) : Nat := if b then 2 ^ n else 0

/-- Module health: bit k set for module k STUCK; an absent module is shown OK (R177, R199). -/
def healthByte (s : State) : Byte :=
  byteOf ((ModuleId.all.map fun k => flagBit k.val (s.present k && s.relay.stuck.get k)).sum)

/-- Page 2, the status summary (R177, R199). -/
def statusContent (s : State) : List Byte :=
  [s.causes, s.ret.settings.enableMask, byteOf s.mon.state.code, byteOf s.gauge.level.code,
   byteOf (flagBit 0 s.gauge.underrun + flagBit 1 s.gauge.unknown)]
    ++ be16 s.permille ++ be16 s.remainingMah ++ be16 s.gauge.vAverage ++ be16Int s.currentMa
    ++ (ModuleId.all.map fun k => byteOf (s.slotLive k).state.code)
    ++ [byteOf s.releaseQueue.length, byteOf s.ret.suspects.length, byteOf s.ret.overflow, byteOf s.ret.shocks.length]
    ++ be32 s.ret.epoch ++ be16 s.ret.overwritten ++ be32 s.ret.writeSeq ++ be32 s.clock.stamp
    ++ [healthByte s, byteOf (s.straps.svcSel.toNat + 4 * s.straps.modCnt.toNat)]

/-- A shock record's 24 bytes (R199). -/
def shockPlace (r : ShockRec) : List Byte :=
  padTo 24 (be32 r.number ++ [byteOf r.kind.code, byteOf (flagBit 0 r.isOpen)] ++ be32 r.stamp ++ be16 r.duration
    ++ be16 (match r.peak with
      | some p => p.l1
      | none => 65535)
    ++ [codeOr (fun p : Peak => p.axis.code) 255 r.peak, byteOf (flagBit 0 r.saturated), byteOf r.strikes]
    ++ be16 r.charge ++ [byteOf r.exposed, byteOf r.held])

/-- Page 3, the shock log, oldest first (R161, R199). -/
def shockContent (s : State) : List Byte := byteOf s.ret.shocks.length :: (s.ret.shocks.map shockPlace).flatten

/-- A suspect entry's 20 bytes (R199). -/
def suspectPlace (e : Suspect) : List Byte :=
  padTo 20 ([byteOf e.key.module.val] ++ be16 e.key.block.toNat ++ [codeOr BitVec.toNat 255 e.key.page,
    byteOf e.reason.code, byteOf e.verdict.code] ++ be32 (e.writeSeq.getD 0) ++ be32 (e.shock.getD 0) ++ be32 e.stamp)

/-- Page 4, the suspect list in list order; columns 5 to 7 are given no content (R154, R199). -/
def suspectContent (s : State) : List Byte :=
  [byteOf s.ret.suspects.length, byteOf s.ret.overflow] ++ freeBytes s.freeIndex 3
    ++ (s.ret.suspects.map suspectPlace).flatten

/-- The low 32 bits of a ms timer value, or the encoding of an absent one (R199, R200). -/
def be32Ms : Option Nat → List Byte
  | some n => be32 (n % 4294967296)
  | none => be32 Config.maxWord32

/-- A slot's 40 bytes (R105, R199). The busy time of a live slot is its live value. -/
def slotPlace (s : State) (k : ModuleId) : List Byte :=
  let r := s.slotRec k
  let l := s.slotLive k
  padTo 40 ([byteOf l.state.code, codeOr SlotStep.code 0 l.step, codeOr OpKind.code 0 r.kind]
    ++ be16 (match r.block with
      | some b => b.toNat
      | none => 65535)
    ++ [codeOr BitVec.toNat 255 r.page, byteOf (flagBit 0 r.tagged)] ++ be32 (r.writeSeq.getD 0)
    ++ [codeOr Level.code 255 r.level] ++ be32Ms r.holdStart ++ [codeOr ReleaseCause.code 0 r.cause]
    ++ (match r.exposure with
      | some e => be32 e.record ++ be16 e.offset
      | none => be32 0 ++ be16 65535)
    ++ be16 (if l.state.isLive then l.busyMs s.ms else r.busyMs) ++ [codeOr SlotOutcome.code 0 r.last]
    ++ be32Ms l.issueMs)

/-- An entry of the insert queue: the module, then the kind in bits 3–0 and the cause in bits 7–4 (R199). -/
def insertPlace (e : Insert) : List Byte :=
  [byteOf e.module.val,
   byteOf (e.kind.code + 16 * (match e.cause with
     | some c => c.code
     | none => 0))]

/-- Page 5, the slots and queues; column 3 is given no content (R105, R199). -/
def slotContent (s : State) : List Byte :=
  freeBytes s.freeIndex 1 ++ (ModuleId.all.map (slotPlace s)).flatten
    ++ padTo 4 (s.releaseQueue.map fun k => byteOf k.val) ++ padTo 8 (s.arb.queue.map insertPlace).flatten

/-- Page 6, the settings in id order; column 3 is given no content (R178, R199). -/
def settingsContent (s : State) : List Byte :=
  freeBytes s.freeIndex 1 ++ (SettingId.all.map fun i => be32Int (s.ret.settings.get i)).flatten

/-- The counters in the order of page 7 (R199). -/
def CounterId.all : List CounterId :=
  [.empty, .untagged, .misplaced, .mismatch, .matched, .skipped,
   .protocol, .timeout, .refusedPrograms, .refusedErases, .holds, .holdBreaks, .stale]

/-- Page 7, the counters; column 3 is given no content (R178, R199). -/
def counterContent (s : State) : List Byte :=
  freeBytes s.freeIndex 1 ++ (CounterId.all.map fun i => be16 (s.counters.get i)).flatten

/-- The content of a report page from column 0, and how many free values it shows (R199). -/
def reportContent (s : State) (p : BitVec 7) : List Byte × Nat :=
  match p.toNat with
  | 1 => (pageHeader p ++ answerContent s, 0)
  | 2 => (pageHeader p ++ statusContent s, 0)
  | 3 => (pageHeader p ++ shockContent s, 0)
  | 4 => (pageHeader p ++ suspectContent s, 3)
  | 5 => (pageHeader p ++ slotContent s, 1)
  | 6 => (pageHeader p ++ settingsContent s, 1)
  | 7 => (pageHeader p ++ counterContent s, 1)
  | _ => ([], 0)

/-- The side effect made with a page's snapshot: page 2 clears the causes it shows, page 7 the counters while
COUNTER_CLEAR_ON_READ is 1 (R176, R180). -/
def State.reportEffect (s : State) (p : BitVec 7) : State :=
  match p.toNat with
  | 2 => s.onCauses fun c => c &&& ~~~s.causes
  | 7 => if s.ret.settings.counterClearOnRead = 1 then s.onCounters fun _ => Counters.zero else s
  | _ => s

/-- The close code of a service read of page `p`: the snapshot is taken, its side effect is made with it, and its processing
begins (R18, R175, R176). -/
def State.takeSnapshot (s : State) (p : BitVec 7) : State :=
  let c := reportContent s p
  let s1 := s.onSvc fun v =>
    { v with
      snapshot := some { page := p, content := c.1 }
      processing := some (.report p)
      processingBy := s.now + Config.reportTime }
  let s2 := { s1 with freeIndex := s.freeIndex + c.2 }
  s2.reportEffect p

/-- The byte a strobe reads from the snapshot at a column (R18, R175, R199). -/
def Snapshot.byteAt (n : Snapshot) (column : Nat) : Byte :=
  if column < Config.pageColumns then n.content.getD column 0xFF else 0xFF

end Sys2Proof.Machine
end

