-- ==== Sys2Proof/Machine/Commands.lean ====
section
/-! DEFINITION. The ten commands of the service block and the end of a processing (R18, R163 to R174, R182 to R186). -/

namespace Sys2Proof.Machine

/-! ### Shared operations -/

/-- The frame being processed whose command is not yet executed. -/
def State.waitingFrame (s : State) : Option (List Byte) :=
  match s.svc.processing with
  | some (.frame bytes none) => some bytes
  | some (.frame _ (some _)) => none
  | some (.report _) => none
  | none => none

/-- What a processing holds. -/
def State.setProcessing (s : State) (p : Option Processing) : State := s.onSvc fun v => { v with processing := p }

/-- The frame being processed is executed as the command `code` by `f`, if it passes the checks of R165 and names that command;
otherwise this event does not occur (log 4). DESIGN CHOICE (log 37): a command is taken whole with all its retained writes, where
R131 and R167 let a cut fall between two of them (the settings table written, the close of a held erase or the copy of the charge
not yet). -/
def State.runCommand (s : State) (code : CmdCode) (f : List Byte → State → State × CmdDone) : State :=
  match s.waitingFrame with
  | none => s
  | some bytes =>
    match checkFrame bytes with
    | .error _ => s
    | .ok c =>
      if c = code then
        let r := f bytes s
        r.1.setProcessing (some (.frame bytes (some r.2)))
      else s

/-- The settings table is stored and the change effects are applied in id order (R182, R185): the window refill (R55), the holds
judged on a new limit (R186), then the gauge (R115, R122). The other effects are those of reading the new value. -/
def State.storeSettings (s : State) (new : Settings) : State :=
  let old := s.ret.settings
  let s1 := s.onRet fun m => { m with settings := new }
  let s2 :=
    if old.window ≠ new.window then s1.onFe fun f => f.refill new.window.toNat f.average else s1
  let s3 := if old.holdLimit ≠ new.holdLimit then s2.judgeHolds else s2
  s3.gaugeEffects old

/-- An accepted command with its applied value. -/
def accepted (v : Int) : CmdDone := { result := .accepted, applied := v }

/-- ACCEPTED where the value taken is the one given, CLAMPED where it differs (R168, R171). -/
def acceptedOr (given taken : Int) : CmdDone :=
  { result := if taken = given then .accepted else .clamped, applied := taken }

/-! ### The effects of the commands -/

/-- SET SETTING (R168, R183, R184). -/
def setSettingEffect (f : List Byte) (s : State) : State × CmdDone :=
  match SettingId.ofId (place f 4).toNat with
  | none => (s, { result := .malformed, applied := 0 })
  | some i =>
    let given := argInt32 f 5
    let v := i.bring s.ret.settings given
    (s.storeSettings (s.ret.settings.store i v), acceptedOr given v)

/-- The enable mask after a MODIFY ATTENTION (R169). -/
def modifiedMask (old mask value : BitVec 8) : BitVec 8 := (old &&& ~~~mask) ||| (value &&& mask)

/-- MODIFY ATTENTION (R169). -/
def modifyAttentionEffect (f : List Byte) (s : State) : State × CmdDone :=
  let v : Int := (modifiedMask s.ret.settings.enableMask (place f 4) (place f 5)).toNat
  (s.storeSettings (s.ret.settings.set .attnEnable v), accepted v)

/-- SET STAMP (R170, R192, R193). -/
def setStampEffect (f : List Byte) (s : State) : State × CmdDone :=
  let v := arg32 f 4
  ((s.onClock fun c => { c with stamp := v, nextSecond := s.now + Config.stampPeriod }).onRet fun m =>
    { m with stampCopy := v }, accepted v)

/-- SET CHARGE (R121, R171). -/
def setChargeEffect (f : List Byte) (s : State) : State × CmdDone :=
  let given := argInt32 f 4
  let mah := clampInt 0 s.ret.settings.capacity given
  (s.putCharge (mah.toNat * Config.microCoulombPerMah), acceptedOr given mah)

/-- MARK FULL (R121, R171). -/
def markFullEffect (s : State) : State × CmdDone := (s.putCharge s.ret.settings.full, accepted s.ret.settings.capacity)

/-- RELEASE SUSPECT (R152, R172). -/
def releaseSuspectEffect (f : List Byte) (s : State) : State × CmdDone :=
  match frameSelector f with
  | none => (s, { result := .malformed, applied := 0 })
  | some sel =>
    let r := s.releaseSuspects sel
    (r.1, match r.2 with
      | some n => accepted n
      | none => { result := .notFound, applied := 0 })

/-- CLEAR SHOCK LOG (R160, R172). -/
def clearShockLogEffect (f : List Byte) (s : State) : State × CmdDone :=
  let r := s.clearShocks (arg32 f 4)
  (r.1, accepted r.2)

/-- RELEASE HOLDS (R90, R173). -/
def releaseHoldsEffect (s : State) : State × CmdDone :=
  let r := s.forceAll
  (r.1, accepted r.2)

/-- CLEAR COUNTERS (R173). -/
def clearCountersEffect (s : State) : State × CmdDone := (s.onCounters fun _ => Counters.zero, accepted 0)

/-- RESTORE DEFAULTS (R174). -/
def restoreDefaultsEffect (s : State) : State × CmdDone :=
  (s.storeSettings Settings.defaults, accepted (s.ret.settings.changes Settings.defaults))

/-! ### The meanings -/

/-- SET_SETTING (R168). -/
def execSetSetting (s : State) : Host.Outcome State Fault Refusal :=
  .next (s.serving fun s => s.runCommand .setSetting setSettingEffect)

/-- MODIFY_ATTENTION (R169). -/
def execModifyAttention (s : State) : Host.Outcome State Fault Refusal :=
  .next (s.serving fun s => s.runCommand .modifyAttention modifyAttentionEffect)

/-- SET_STAMP (R170). -/
def execSetStamp (s : State) : Host.Outcome State Fault Refusal :=
  .next (s.serving fun s => s.runCommand .setStamp setStampEffect)

/-- SET_CHARGE (R171). -/
def execSetCharge (s : State) : Host.Outcome State Fault Refusal :=
  .next (s.serving fun s => s.runCommand .setCharge setChargeEffect)

/-- MARK_FULL (R121). -/
def execMarkFull (s : State) : Host.Outcome State Fault Refusal :=
  .next (s.serving fun s => s.runCommand .markFull fun _ => markFullEffect)

/-- RELEASE_SUSPECT (R152). -/
def execReleaseSuspect (s : State) : Host.Outcome State Fault Refusal :=
  .next (s.serving fun s => s.runCommand .releaseSuspect releaseSuspectEffect)

/-- CLEAR_SHOCK_LOG (R160). -/
def execClearShockLog (s : State) : Host.Outcome State Fault Refusal :=
  .next (s.serving fun s => s.runCommand .clearShockLog clearShockLogEffect)

/-- RELEASE_HOLDS (R90). -/
def execReleaseHolds (s : State) : Host.Outcome State Fault Refusal :=
  .next (s.serving fun s => s.runCommand .releaseHolds fun _ => releaseHoldsEffect)

/-- CLEAR_COUNTERS (R173). -/
def execClearCounters (s : State) : Host.Outcome State Fault Refusal :=
  .next (s.serving fun s => s.runCommand .clearCounters fun _ => clearCountersEffect)

/-- RESTORE_DEFAULTS (R174). -/
def execRestoreDefaults (s : State) : Host.Outcome State Fault Refusal :=
  .next (s.serving fun s => s.runCommand .restoreDefaults fun _ => restoreDefaultsEffect)

/-! ### The end of a processing (R18, R166) -/

/-- The answer to a frame replaces the one before, the answer count grows and the service answer is set (R166). -/
def State.giveAnswer (s : State) (bytes : List Byte) (result : CmdResult) (applied : Option Int) : State :=
  (s.onSvc fun v =>
    { v with
      processing := none
      answer := some { frameNumber := place bytes 3, code := place bytes 2, result := result, applied := applied }
      answerCount := (v.answerCount + 1) % 65536 }).onRelay fun r => { r with serviceAnswer := true }

/-- The processing ends (R18, R166). A frame that fails a check is answered with its result; one that passes is answered once its
command is executed, and the end does not come before that (log 28). -/
def State.endProcessing (s : State) : State :=
  match s.svc.processing with
  | none => s
  | some (.report _) => s.setProcessing none
  | some (.frame bytes (some d)) => s.giveAnswer bytes d.result (some d.applied)
  | some (.frame bytes none) =>
    match checkFrame bytes with
    | .error e => s.giveAnswer bytes e none
    | .ok _ => s

/-- SERVICE_PROCESSING_END (R18). -/
def execServiceProcessingEnd (s : State) : Host.Outcome State Fault Refusal := .next (s.serving State.endProcessing)

end Sys2Proof.Machine
end

