-- ==== Sys2Proof/Machine/TagOps.lean ====
section
/-! DEFINITION. The tag engine: engagement, the build of a tag, the program stream, and the read check (R26 to R41). -/

namespace Sys2Proof.Machine

/-! ### The page tag (R26, R197) -/

/-- The address echo: bits 6–0 page, 17–7 block, 19–18 module, 31–20 zero (R197). -/
def addressEcho (k : ModuleId) (block : BitVec 11) (page : BitVec 7) : BitVec 32 :=
  (0#12 ++ BitVec.ofNat 2 k.val ++ block ++ page : BitVec 32)

/-- The state byte: bits 1–0 level, bits 4–2 monitor state, bits 7–5 zero (R197). -/
def stateByte (level : Level) (mon : MonState) : Byte := BitVec.ofNat 8 (level.code + 4 * mon.code)

/-- The 30 bytes of a tag before its check (R26, R197). -/
def tagBody (s : State) (p : TagProgram) (dataCrc : BitVec 32) (writeSeq : Nat) : List Byte :=
  [0xA7, 0x3C] ++ be32 dataCrc.toNat ++ be32 writeSeq ++ be16 (s.ret.epoch % 65536) ++ be16 s.permille
    ++ [stateByte s.gauge.level s.mon.state] ++ be32 s.clock.stamp
    ++ be32 (addressEcho p.module p.block p.page).toNat ++ List.replicate 7 0xFF

/-- A tag's 32 bytes (R26, R197). -/
def tagBytes (s : State) (p : TagProgram) (dataCrc : BitVec 32) (writeSeq : Nat) : List Byte :=
  let body := tagBody s p dataCrc writeSeq
  body ++ be16 (crc16 body).toNat

/-- The write sequence counter after a build: advanced by 1, exhausted after the last number (R27). -/
def nextWriteSeq (n : Nat) : Nat := if n = 0 ∨ Config.maxWord32 ≤ n then 0 else n + 1

/-- The CRC-32 of the data columns as the module will hold them: the columns from the position on count as 0xFF (R32). -/
def TagProgram.dataCrc (p : TagProgram) : BitVec 32 :=
  crc32End (times (Config.dataColumns - p.pos) (fun r => crc32Byte r 0xFF) p.crc)

/-- The build of a tag (R26, R27): the program with its tag, and the state with the counter advanced. -/
def State.buildTag (s : State) (p : TagProgram) : State × TagProgram :=
  let w := s.ret.writeSeq
  (s.onRet fun m => { m with writeSeq := nextWriteSeq w },
   { p with tag := some (tagBytes s p p.dataCrc w), writeSeq := some w })

/-! ### The program stream (R28 to R34) -/

/-- The tag engine's program state at engagement (R28). -/
def engageProgram (writeSeq : Nat) (k : ModuleId) (a : LatchedAddr) : TagProgram where
  module := k
  block := a.block
  page := a.page
  pos := a.column
  crc := crc32Start
  tagged := decide (a.column = 0) && decide (writeSeq ≠ 0)
  tag := none
  writeSeq := none

/-- The tag engine's program state. -/
def State.setProgram (s : State) (p : Option TagProgram) : State := s.onTag fun t => { t with program := p }

/-- The tag byte of a tag column (R30). -/
def TagProgram.tagByte (p : TagProgram) : Byte := (p.tag.getD []).getD (p.pos - Config.dataColumns) 0xFF

/-- A data byte of a passed-through program at a column up to 4127 (R29, R30): it or the tag byte of its column is forwarded,
and the tag is built when column 4095 has been taken. -/
def State.streamByte (s : State) (p : TagProgram) (b : Byte) : State :=
  if p.tagged then
    if p.pos < Config.dataColumns then
      let p1 := { p with crc := crc32Byte p.crc b, pos := p.pos + 1 }
      let s1 := s.forward [.data p.module b]
      if p1.pos = Config.dataColumns then
        let r := s1.buildTag p1
        r.1.setProgram (some r.2)
      else s1.setProgram (some p1)
    else (s.forward [.data p.module p.tagByte]).setProgram (some { p with pos := p.pos + 1 })
  else (s.forward [.data p.module b]).setProgram (some { p with pos := p.pos + 1 })

/-- A COLUMN MOVE inside a program (R31). -/
def TagProgram.moveTo (p : TagProgram) (col : Nat) : TagProgram :=
  { p with pos := col, tagged := false, crc := crc32Start, tag := none, writeSeq := none }

/-- The tag completion at the close code (R32, R33): the state with any tag built and the completion sent, and the program. -/
def State.completeTag (s : State) (p : TagProgram) : State × TagProgram :=
  if p.tagged then
    match p.tag with
    | none =>
      let r := s.buildTag p
      (r.1.forward (columnMoveCycles p.module 4096 ++ (r.2.tag.getD []).map fun b => .data p.module b), r.2)
    | some bytes =>
      (s.forward ((bytes.drop (p.pos - Config.dataColumns)).map fun b => .data p.module b), p)
  else (s, p)

/-! ### The read check (R35 to R41) -/

/-- The tag engine's read state at engagement (R35). -/
def engageRead (k : ModuleId) (a : LatchedAddr) : TagRead where
  module := k
  block := a.block
  page := a.page
  pos := a.column
  crc := crc32Start
  inOrder := decide (a.column = 0)
  allFF := true
  captured := []
  settled := false

/-- The tag engine's read state. -/
def State.setRead (s : State) (r : Option TagRead) : State := s.onTag fun t => { t with read := r }

/-- The outcome of a read in order whose last column has been examined (R38). -/
def TagRead.outcome (r : TagRead) : ReadOutcome :=
  let tag := r.captured
  if r.allFF then .empty
  else if tag.take 2 ≠ [0xA7, 0x3C] ∨ (crc16 (tag.take 30)).toNat ≠ ofBe (tag.drop 30) then .untagged
  else if ofBe ((tag.drop 19).take 4) ≠ (addressEcho r.module r.block r.page).toNat then .misplaced
  else if ofBe ((tag.drop 2).take 4) ≠ (crc32End r.crc).toNat then .mismatch
  else .matched

/-- The write sequence a read report carries: for MATCH, MISMATCH and MISPLACED the one captured from the tag (R41). -/
def TagRead.reportSeq (r : TagRead) (o : ReadOutcome) : Option Nat :=
  match o with
  | .matched => some (ofBe ((r.captured.drop 6).take 4))
  | .mismatch => some (ofBe ((r.captured.drop 6).take 4))
  | .misplaced => some (ofBe ((r.captured.drop 6).take 4))
  | .empty => none
  | .untagged => none
  | .skipped => none

/-- The read check of `r` is settled with an outcome: counted, and reported to the suspect list unless SKIPPED (R40, R41). -/
def State.settleRead (s : State) (r : TagRead) (o : ReadOutcome) : State :=
  ((s.setRead (some { r with settled := true })).readReport o
    { module := r.module, block := r.block, page := some r.page } (r.reportSeq o)).count o.counter

/-- A data-out byte examined (R36): at its column of a read in order that is not settled, and at column 4127 the check
settles. -/
def State.examine (s : State) (b : Byte) : State :=
  match s.tag.read with
  | none => s
  | some r =>
    if r.inOrder && !r.settled && decide (r.pos < Config.pageColumns) then
      let r1 :=
        { r with
          pos := r.pos + 1
          crc := if r.pos < Config.dataColumns then crc32Byte r.crc b else r.crc
          captured := if r.pos < Config.dataColumns then r.captured else r.captured ++ [b]
          allFF := r.allFF && decide (b = 0xFF) }
      if r1.pos = Config.pageColumns then s.settleRead r1 r1.outcome else s.setRead (some r1)
    else s

/-- A read in order loses its order (R37). -/
def State.loseOrder (s : State) : State :=
  match s.tag.read with
  | none => s
  | some r => if r.settled then s else s.setRead (some { r with inOrder := false, crc := crc32Start, captured := [] })

/-- The read ends for the tag engine: an unsettled one is settled SKIPPED (R39). -/
def State.readEnds (s : State) : State :=
  match s.tag.read with
  | none => s
  | some r => if r.settled then s else s.settleRead r .skipped

end Sys2Proof.Machine
end

