-- ==== Sys2Proof/Machine/ChannelOps.lean ====
section
/-! DEFINITION. The channel relay's shared operations: opening, classifying and ending sequences, codes without a place, and
stray cycles (R2 to R18). -/

namespace Sys2Proof.Machine

/-- The open sequence. -/
def State.setSeq (s : State) (q : Option Seq) : State := s.onRelay fun r => { r with seq := q }

/-! ### Ends (R2, R39, R34, R175) -/

/-- What the end of the sequence means to the tag engine and the service handler. The snapshot of a service read is discarded
(R175). DESIGN CHOICE (log 38): where such a read ends during its own processing, the processing and its busy period go on up to
SERVICE_PROCESSING_END; R18 and R175 do not say whether they end with the read. -/
def State.leaveSequence (s : State) (q : Seq) : State :=
  match q.handling with
  | .passed =>
    match q.kind with
    | .read => s.readEnds.setRead none
    | .program => s.setProgram none
    | .erase => s
    | .identify => s
    | .status => s
  | .svcFrame => s.onSvc fun v => { v with frame := none }
  | .svcReport _ _ => s.onSvc fun v => { v with snapshot := none }
  | .latching => s
  | .discarded => s
  | .refused => s
  | .absent => s
  | .svcBlank => s

/-- The open sequence ends, and its end is reported to doze control (R2, R19, R188). -/
def State.endSequence (s : State) : State :=
  match s.relay.seq with
  | none => s
  | some q =>
    ((s.leaveSequence q).onRelay fun r => { r with seq := none, nested := none, stray := false }).idleZero

/-! ### Address phase and codes without a place (R3) -/

/-- A code or data cycle cuts the address phase short: the sequence is discarded and counted. -/
def State.cutAddress (s : State) (q : Seq) : State :=
  (s.count .protocol).setSeq (some { q with handling := .discarded })

/-- A code that is no open code arrives where it has no place (R3). In the address phase it cuts the sequence short; the close
code of a program or erase then ends it too. DESIGN CHOICE (log 13): a code that cuts an address phase and has no place either is
counted PROTOCOL once, as the cut. -/
def State.unplacedArrives (s : State) (closes : Option SeqKind) : State :=
  if s.relay.absorb then s
  else
    match s.relay.nested, s.relay.seq with
    | none, some q =>
      if q.handling = .latching then
        if closes = some q.kind ∧ q.kind ≠ .read then (s.cutAddress q).endSequence else s.cutAddress q
      else s.count .protocol
    | _, _ => s.count .protocol

/-- The open sequence to which a close code of a kind belongs, if the code has a place (R3). DESIGN CHOICE (log 36): whatever the
CE# pins show. -/
def State.closing (s : State) (kind : SeqKind) : Option Seq :=
  match s.relay.absorb, s.relay.seq with
  | false, some q =>
    if q.kind = kind ∧ q.handling ≠ .latching ∧ q.closeTaken = false then some q else none
  | _, _ => none

/-- The STATUS nested in the open sequence, if one waits, ends: with its byte out, or at the next code that is taken (1.1; log 10).
The first stray data cycle since then is counted again (R3), and its end is reported to doze control (R19, R188). -/
def State.endNested (s : State) : State :=
  match s.relay.nested with
  | none => s
  | some _ => (s.onRelay fun r => { r with nested := none, stray := false }).idleZero

/-- A close code arrives: `f` takes it for the sequence it closes. -/
def State.closeCode (s : State) (kind : SeqKind) (f : State → Seq → State) : State :=
  match s.closing kind with
  | some q => f s.endNested { q with closeTaken := true }
  | none => s.unplacedArrives (some kind)

/-- A data cycle where the open sequence takes none, or with no sequence open: the first is counted (R3). -/
def State.strayCycle (s : State) : State :=
  if s.relay.stray then s else (s.count .protocol).onRelay fun r => { r with stray := true }

/-! ### Opening (R2, R19) -/

/-- What becomes of an open code by the CE# pins and WAIT (R2, R19). -/
inductive OpenCheck where
  | ignored
  | counted
  | taken (k : ModuleId)
  deriving DecidableEq, Repr

/-- One CE# must be asserted, and WAIT must not be (R2, R19). DESIGN CHOICE (log 9): with several CE# asserted under WAIT the code
is counted once. -/
def State.openCheck (s : State) : OpenCheck :=
  match s.asserted with
  | [] => .ignored
  | [k] => if s.wait then .counted else .taken k
  | _ => .counted

/-- An open code ignored and counted: the cycles up to the next open code are absorbed (R2, R19). DESIGN CHOICE (log 15): an address
phase that it meets is not cut, R3 letting any code cut one and R2 ignoring this one; the sequence stays in its address phase, and the
open code that ends it there is counted as its cut. -/
def State.ignoreOpen (s : State) : State := (s.count .protocol).onRelay fun r => { r with absorb := true }

/-- An open code ends the open sequence, counting one cut short in its address phase (R2, R3). -/
def State.endForOpen (s : State) : State :=
  let s1 : State := match s.relay.seq with
    | some q => if q.handling = Handling.latching then (s.count .protocol).endSequence else s.endSequence
    | none => s
  s1.onRelay fun r => { r with absorb := false, stray := false }

/-- An open code on the drive port: `f` on a part that serves it. Under the WAIT of a reset it is ignored without count and the
cycles after it are absorbed, unless no CE# is asserted (R2, R19, R132). -/
def State.hearing (s : State) (f : State → State) : State :=
  match s.phase with
  | .running => f s.begin
  | .inReset _ => if s.asserted.isEmpty then s.begin else s.begin.onRelay fun r => { r with absorb := true }
  | .unpowered => s.begin

/-- An open code arrives; `f` opens its sequence to the module it names (R2). DESIGN CHOICE (log 9): one ignored for want of any
asserted CE# leaves the stray mark as it is, where R3 counts the first stray data cycle after each open code. -/
def State.openCode (s : State) (f : State → ModuleId → State) : State :=
  match s.openCheck with
  | .ignored => s
  | .counted => s.ignoreOpen
  | .taken k => f s.endForOpen k

/-- A new sequence in its address phase (R3). -/
def newSeq (kind : SeqKind) (k : ModuleId) : Seq where
  kind := kind
  module := k
  latched := []
  handling := .latching
  closeTaken := false
  timedOut := false
  counted := false
  answer := .fromModule

/-- An open code whose sequence has an address phase. -/
def State.openLatched (s : State) (kind : SeqKind) : State :=
  s.openCode fun s k => s.setSeq (some (newSeq kind k))

/-! ### Classification (R4) -/

/-- Classifying a sequence other than a STATUS to present module k clears its override while health is OK, and at module 0 the
service answer (R11, R18). -/
def State.clearForClass (s : State) (k : ModuleId) : State :=
  s.onRelay fun r =>
    { r with
      readyFail := if r.stuck.get k then r.readyFail else r.readyFail.set k false
      serviceAnswer := if k = .m0 then false else r.serviceAnswer }

/-- The address cycles of a sequence as the part sends them: bits 23 to 18 of a row, the upper six of its last cycle, are sent
as 0; an IDENTIFY's one cycle names no row (R196). -/
def sentCycles (kind : SeqKind) (bs : List Byte) : List Byte :=
  match kind, bs with
  | .read, [c0, c1, r0, r1, r2] => [c0, c1, r0, r1, r2 &&& 0x03]
  | .program, [c0, c1, r0, r1, r2] => [c0, c1, r0, r1, r2 &&& 0x03]
  | .erase, [r0, r1, r2] => [r0, r1, r2 &&& 0x03]
  | _, _ => bs

/-- The cycles of a latched sequence, as sent on the module port (R3, R196). -/
def Seq.cycles (q : Seq) : List ModuleCycle :=
  .code q.module q.kind.openCode.byte :: (sentCycles q.kind q.latched).map fun b => .addr q.module b

/-- A refused sequence: READY-FAIL, the rest absorbed (R4). -/
def State.refuseSeq (s : State) (q : Seq) : State :=
  (s.setReadyFail q.module).setSeq (some { q with handling := .refused })

/-- A sequence handed to the service handler, by its kind and page (R17). -/
def State.serviceSeq (s : State) (q : Seq) : State :=
  let a := q.addr
  match q.kind with
  | .program =>
    if a.page = 0 then
      (s.onSvc fun v => { v with frame := some { bytes := List.replicate 18 0xFF, pos := a.column } }).setSeq
        (some { q with handling := .svcFrame })
    else s.refuseSeq q
  | .read =>
    if 1 ≤ a.page.toNat ∧ a.page.toNat ≤ 7 then s.setSeq (some { q with handling := .svcReport a.page a.column })
    else s.setSeq (some { q with handling := .svcBlank })
  | .erase => s.refuseSeq q
  | .identify => s.refuseSeq q
  | .status => s.refuseSeq q

/-- A sequence passed through: its latched cycles are forwarded and the tag engine is engaged (R4, R28, R35). -/
def State.passSeq (s : State) (q : Seq) : State :=
  let s1 := (s.forward q.cycles).setSeq (some { q with handling := .passed })
  match q.kind with
  | .program => s1.setProgram (some (engageProgram s.ret.writeSeq q.module q.addr))
  | .read => s1.setRead (some (engageRead q.module q.addr))
  | .erase => s1
  | .identify => s1
  | .status => s1

/-- Whether the sequence addresses the service block (R4 row 6, R162). -/
def State.isService (s : State) (q : Seq) : Bool :=
  decide (q.module = .m0) && decide (q.kind ≠ .identify) && decide (q.addr.block = serviceBlock s.straps.svcSel)

/-- Classification of a sequence whose address phase is complete: the rows of R4 that can apply to it, in order. -/
def State.classify (s : State) (q : Seq) : State :=
  let k := q.module
  if s.present k then
    let s1 := s.clearForClass k
    if s1.viewBusy k then (s1.count .protocol).setSeq (some { q with handling := .discarded })
    else if s1.isService q then s1.serviceSeq q
    else if s1.relay.stuck.get k then s1.refuseSeq q
    else s1.passSeq q
  else s.setSeq (some { q with handling := .absent })

/-- The last address cycle ends latching: a column above 4127 discards the sequence, any other is classified (R3). -/
def State.latchedAll (s : State) (q : Seq) : State :=
  if q.addr.column < Config.pageColumns then s.classify q
  else (s.count .protocol).setSeq (some { q with handling := .discarded })

/-! ### STATUS (R2, R8) -/

/-- A STATUS with the CE# of an open read or IDENTIFY past its address phase is nested in it (R2). -/
def State.nests (s : State) (k : ModuleId) : Bool :=
  match s.relay.seq with
  | some q =>
    (decide (q.kind = .read) || decide (q.kind = .identify)) && decide (q.module = k) && decide (q.handling ≠ .latching)
  | none => false

/-- A STATUS to module k is classified: answered by the part, or forwarded (R8). -/
def State.forwardStatus (s : State) (k : ModuleId) : State :=
  match s.statusAnswer k with
  | .fromModule => s.forward [.code k ChannelCode.status.byte]
  | .byPart _ => s

/-- A STATUS sequence of its own, waiting for its byte out. -/
def statusSeq (k : ModuleId) (a : StatusAnswer) : Seq where
  kind := .status
  module := k
  latched := []
  handling := .passed
  closeTaken := false
  timedOut := false
  counted := false
  answer := a

/-- The byte out of a STATUS: the part's own, or the module's passed back (R8). -/
def State.answerStatus (s : State) (k : ModuleId) (a : StatusAnswer) (b : Byte) : State :=
  match a with
  | .byPart own => s.answerByte own
  | .fromModule => (s.forward [.strobe k]).answerByte b

end Sys2Proof.Machine
end

