-- ==== Sys2Proof/Machine/Confirm.lean ====
section
/-! DEFINITION. The meanings of the close codes and of a code with no place (R3, R5, R7, R17, R18, R83). -/

namespace Sys2Proof.Machine

/-- The close code of a read: forwarded for a passed-through read, whose busy period starts (R5); the snapshot of a report page
(R18, R175); absorbed otherwise. -/
def State.closeRead (s : State) (q : Seq) : State :=
  let s1 := s.setSeq (some q)
  match q.handling with
  | .passed =>
    (s1.forward [.code q.module ChannelCode.readClose.byte]).onRelay fun r =>
      { r with readBusy := r.readBusy.set q.module (some (s.now + Config.readBusyLimit)) }
  | .svcReport p _ => s1.takeSnapshot p
  | .latching => s1
  | .discarded => s1
  | .refused => s1
  | .absent => s1
  | .svcFrame => s1
  | .svcBlank => s1

/-- READ_CLOSE (R5). -/
def execReadClose (s : State) : Host.Outcome State Fault Refusal :=
  .next (s.serving fun s => s.closeCode .read State.closeRead)

/-- The confirm of a passed-through program or erase: the slot decides it, and on an issue the close code is forwarded after the
slot is recorded (R7, R81). -/
def State.confirm (s : State) (k : ModuleId) (c : Confirm) (close : ChannelCode) : State :=
  let s1 := s.takeConfirm k c
  match confirmDecision c.kind s.gauge.level s.mon.state with
  | .issue => s1.forward [.code k close.byte]
  | .hold => s1
  | .refuse => s1

/-- What a program hands its slot: the tagged flag, and the write sequence of a tagged one (R33, R83). -/
def TagProgram.confirm (p : TagProgram) : Confirm where
  kind := .program
  block := p.block
  page := some p.page
  tagged := p.tagged
  writeSeq := if p.tagged then p.writeSeq else none

/-- The close code of a program (R7, R12, R17, R18). -/
def State.closeProgram (s : State) (q : Seq) : State :=
  match q.handling with
  | .passed =>
    match s.tag.program with
    | some p =>
      let r := s.completeTag p
      (r.1.confirm q.module r.2.confirm .programClose).endSequence
    | none => s.endSequence
  | .svcFrame =>
    ((s.onSvc fun v =>
      { v with
        processing := some (.frame ((v.frame.map FrameBuf.bytes).getD []) none)
        processingBy := s.now + Config.frameTime }).setSeq (some q)).endSequence
  | .latching => s.endSequence
  | .discarded => s.endSequence
  | .refused => s.endSequence
  | .absent => s.endSequence
  | .svcReport _ _ => s.endSequence
  | .svcBlank => s.endSequence

/-- PROGRAM_CLOSE (R7). -/
def execProgramClose (s : State) : Host.Outcome State Fault Refusal :=
  .next (s.serving fun s => s.closeCode .program State.closeProgram)

/-- The close code of an erase (R7, R83). -/
def State.closeErase (s : State) (q : Seq) : State :=
  match q.handling with
  | .passed =>
    (s.confirm q.module { kind := .erase, block := q.addr.block, page := none, tagged := false, writeSeq := none }
      .eraseClose).endSequence
  | .latching => s.endSequence
  | .discarded => s.endSequence
  | .refused => s.endSequence
  | .absent => s.endSequence
  | .svcFrame => s.endSequence
  | .svcReport _ _ => s.endSequence
  | .svcBlank => s.endSequence

/-- ERASE_CLOSE (R83). -/
def execEraseClose (s : State) : Host.Outcome State Fault Refusal :=
  .next (s.serving fun s => s.closeCode .erase State.closeErase)

/-- Whether a COLUMN MOVE has a place: inside a program or read past its address phase (R3). -/
def State.moveHasPlace (s : State) : Bool :=
  match s.relay.seq with
  | some q => (decide (q.kind = .program) || decide (q.kind = .read)) && decide (q.handling ≠ .latching)
  | none => false

/-- A code byte arriving with no place (R3). A byte that has a place here is its own row's command, and this event does not
occur: nothing changes (log 4). -/
def State.unplacedByte (s : State) (c : Byte) : State :=
  match channelCodeOf c with
  | none => s.unplacedArrives none
  | some code =>
    match code.closes with
    | some kind => if (s.closing kind).isSome then s else s.unplacedArrives (some kind)
    | none => if code.isOpenCode || s.moveHasPlace then s else s.unplacedArrives none

/-- UNPLACED_CODE (R3). -/
def execUnplacedCode (c : Byte) (s : State) : Host.Outcome State Fault Refusal :=
  .next (s.serving fun s => s.unplacedByte c)

end Sys2Proof.Machine
end

