-- ==== Sys2Proof/Machine/DataPath.lean ====
section
/-! DEFINITION. The meanings of the COLUMN MOVE, the data-in cycle and the data-out strobe (R5, R6, R13, R18, R29 to R31, R36,
R37, R164). -/

namespace Sys2Proof.Machine

/-- The position of the frame buffer. -/
def State.setFrame (s : State) (f : FrameBuf) : State := s.onSvc fun v => { v with frame := some f }

/-- A COLUMN MOVE inside a program (R6, R31, R164). -/
def State.moveProgram (s : State) (q : Seq) (col : BitVec 16) : State :=
  match q.handling with
  | .passed =>
    if col.toNat < Config.pageColumns then
      (s.forward (columnMoveCycles q.module col)).onTag fun t =>
        { t with program := t.program.map fun p => p.moveTo col.toNat }
    else s.count .protocol
  | .svcFrame =>
    if col.toNat < Config.pageColumns then
      s.onSvc fun v => { v with frame := v.frame.map fun f => { f with pos := col.toNat } }
    else s.count .protocol
  | .latching => s
  | .discarded => s
  | .refused => s
  | .absent => s
  | .svcReport _ _ => s
  | .svcBlank => s

/-- A COLUMN MOVE inside a read (R3, R5, R18, R37). DESIGN CHOICE (log 14): one during the busy period is taken by R5 whatever its
column, so a column above 4127 is then counted once for the sequence and loses the order, where R3 would count each. -/
def State.moveRead (s : State) (q : Seq) (col : BitVec 16) : State :=
  match q.handling with
  | .passed =>
    if q.closeTaken ∧ (s.relay.readBusy.get q.module).isSome then s.loseOrder.countOnce q
    else if col.toNat < Config.pageColumns then (s.forward (columnMoveCycles q.module col)).loseOrder
    else s.count .protocol
  | .svcReport p _ =>
    if col.toNat < Config.pageColumns then s.setSeq (some { q with handling := .svcReport p col.toNat })
    else s.count .protocol
  | .svcBlank => if col.toNat < Config.pageColumns then s else s.count .protocol
  | .latching => s
  | .discarded => s
  | .refused => s
  | .absent => s
  | .svcFrame => s

/-- A COLUMN MOVE (R3, R5, R6). DESIGN CHOICE (log 36): whatever the CE# pins show. -/
def State.columnMove (s : State) (col : BitVec 16) : State :=
  match s.relay.absorb, s.relay.seq with
  | false, some q =>
    if q.handling = .latching then s.unplacedArrives none
    else
      match q.kind with
      | .program => s.endNested.moveProgram q col
      | .read => s.endNested.moveRead q col
      | .erase => s.unplacedArrives none
      | .identify => s.unplacedArrives none
      | .status => s.unplacedArrives none
  | _, _ => s.unplacedArrives none

/-- COLUMN_MOVE (R31). -/
def execColumnMove (col : BitVec 16) (s : State) : Host.Outcome State Fault Refusal :=
  .next (s.serving fun s => s.columnMove col)

/-- A byte of the frame: stored at places 0 to 17, dropped at 18 to 4127, absorbed and counted once beyond (R164). -/
def State.captureByte (s : State) (q : Seq) (f : FrameBuf) (b : Byte) : State :=
  if f.pos < Config.pageColumns then
    s.setFrame { bytes := if f.pos < 18 then f.bytes.set f.pos b else f.bytes, pos := f.pos + 1 }
  else s.countOnce q

/-- A data-in cycle for the open sequence `q` (R6, R29, R164). DESIGN CHOICE (log 36): whatever the CE# pins show. -/
def State.dataIn (s : State) (q : Seq) (b : Byte) : State :=
  match q.handling with
  | .latching => s.cutAddress q
  | .discarded => s
  | .refused => s
  | .absent => s
  | .passed =>
    match q.kind, s.tag.program with
    | .program, some p => if p.pos < Config.pageColumns then s.streamByte p b else s.countOnce q
    | _, _ => s.strayCycle
  | .svcFrame =>
    match s.svc.frame with
    | some f => s.captureByte q f b
    | none => s
  | .svcReport _ _ => s.strayCycle
  | .svcBlank => s.strayCycle

/-- DATA_IN_CYCLE (R29). -/
def execDataInCycle (b : Byte) (s : State) : Host.Outcome State Fault Refusal :=
  .next (s.serving fun s =>
    match s.relay.absorb, s.relay.nested, s.relay.seq with
    | true, _, _ => s
    | false, none, some q => s.dataIn q b
    | false, _, _ => s.strayCycle)

/-- A strobe of a passed-through read (R5, R13, R36, R37). -/
def State.strobeRead (s : State) (q : Seq) (b : Byte) : State :=
  if q.closeTaken then
    if q.timedOut then s.answerByte 0xFF
    else if (s.relay.readBusy.get q.module).isSome then (s.loseOrder.countOnce q).answerByte 0xFF
    else ((s.forward [.strobe q.module]).examine b).answerByte b
  else s.strayCycle

/-- A strobe of a report page read (R18, R175). -/
def State.strobeReport (s : State) (q : Seq) (p : BitVec 7) (column : Nat) : State :=
  if q.closeTaken then
    if s.svc.processing.isSome then (s.countOnce q).answerByte 0xFF
    else
      (s.setSeq (some { q with handling := .svcReport p (column + 1) })).answerByte
        (match s.svc.snapshot with
        | some n => n.byteAt column
        | none => 0xFF)
  else s.strayCycle

/-- A strobe where the part absorbs the sequence: a read or IDENTIFY is answered 0xFF, another kind has no data out (R4, R12,
R17). -/
def State.strobeAbsorbed (s : State) (q : Seq) : State :=
  match q.kind with
  | .read => s.answerByte 0xFF
  | .identify => s.answerByte 0xFF
  | .program => s
  | .erase => s
  | .status => s

/-- A strobe of a service read without a report: 0xFF past its close code, and before it no data cycle (R3, R17). -/
def State.strobeBlank (s : State) (q : Seq) : State := if q.closeTaken then s.answerByte 0xFF else s.strayCycle

/-- A data-out strobe for the open sequence `q` (R3, R5, R8, R13, R18, R36); `b` is the module's byte. DESIGN CHOICE (log 29): the
strobe that itself cuts an address phase finds no read discarded yet, so the part drives no byte for it. DESIGN CHOICE (log 36): the
strobe is the open sequence's whatever the CE# pins show. -/
def State.dataOut (s : State) (q : Seq) (b : Byte) : State :=
  match q.handling with
  | .latching => s.cutAddress q
  | .discarded => s.strobeAbsorbed q
  | .refused => s.strobeAbsorbed q
  | .absent => s.strobeAbsorbed q
  | .svcBlank => s.strobeBlank q
  | .svcFrame => s.strayCycle
  | .svcReport p column => s.strobeReport q p column
  | .passed =>
    match q.kind with
    | .read => s.strobeRead q b
    | .identify => (s.forward [.strobe q.module]).answerByte b
    | .status => (s.answerStatus q.module q.answer b).endSequence
    | .program => s.strayCycle
    | .erase => s.strayCycle

/-- The byte out of a STATUS nested in the open sequence `q`, which then goes on (R2, R36). -/
def State.nestedOut (s : State) (q : Seq) (a : StatusAnswer) (b : Byte) : State :=
  (s.answerStatus q.module a b).endNested

/-- DATA_OUT_STROBE (R36). -/
def execDataOutStrobe (b : Byte) (s : State) : Host.Outcome State Fault Refusal :=
  .next (s.serving fun s =>
    match s.relay.absorb, s.relay.nested, s.relay.seq with
    | true, _, _ => s
    | false, some a, some q => s.nestedOut q a b
    | false, none, some q => s.dataOut q b
    | false, _, none => s.strayCycle)

end Sys2Proof.Machine
end

