-- ==== Sys2Proof/Machine/Inserts.lean ====
section
/-! DEFINITION. The meanings of the start and the completion of inserts (R21, R22, R82, R87, R88, R94 to R98). -/

namespace Sys2Proof.Machine

/-- The moment the gap after the last insert ends (R21). -/
def Arbiter.gapEnd (a : Arbiter) : Nat :=
  match a.gapFrom with
  | some t => t + Config.insertGap
  | none => 0

/-- The close code of a slot's operation. -/
def SlotRec.closeCode (r : SlotRec) : ChannelCode := if r.isErase then .eraseClose else .programClose

/-- The module-port cycles an insert sends (R22). -/
def State.insertCycles (s : State) (e : Insert) : List ModuleCycle :=
  match e.kind with
  | .statusCheck => [.code e.module ChannelCode.status.byte, .strobe e.module]
  | .suspend => [.code e.module ChannelCode.suspend.byte]
  | .resume => [.code e.module ChannelCode.resume.byte]
  | .release => [.code e.module (s.slotRec e.module).closeCode.byte]

/-- A RELEASE starts (R81, R87, R88). -/
def State.startRelease (s : State) (k : ModuleId) (cause : Option ReleaseCause) : State :=
  let l := s.slotLive k
  if l.state = .held then
    let s1 := (s.setSlotRec k { s.slotRec k with state := .issued, cause := cause, busyMs := 0 }).setSlotLive k
      { l with step := some .releasing, suspendFlag := false, issueMs := some s.ms, timerValue := 0,
               timerFrom := some s.ms, keptReturn := false }
    if s.mon.state.isAway then s1.markExposed k 0 else s1
  else s

/-- A RESUME starts (R81, R96). -/
def State.startResume (s : State) (k : ModuleId) : State :=
  let l := s.slotLive k
  if l.state = .suspended then
    (s.setSlotRec k { s.slotRec k with state := .issued, busyMs := l.busyMs s.ms }).setSlotLive k
      { l with suspendFlag := false, keptReturn := false }
  else s

/-- The arbiter starts the insert `e` at the head of the queue (R21, R22). -/
def State.startInsert (s : State) (e : Insert) (rest : List Insert) : State :=
  let s1 := (s.onArb fun a => { a with queue := rest, running := some e }).drive (s.insertCycles e)
  match e.kind with
  | .release => s1.startRelease e.module e.cause
  | .resume => s1.startResume e.module
  | .statusCheck => s1
  | .suspend => s1

/-- The conditions of a start but for the gap (R21). -/
def State.busFree (s : State) : Bool := s.relay.seq.isNone && !s.wait

/-- INSERT_START (R21): a start before the gap is over waits for it (log 3). -/
def execInsertStart (s : State) : Host.Outcome State Fault Refusal :=
  .next (s.serving fun s =>
    match s.arb.queue with
    | [] => s
    | e :: rest => if s.busFree then (s.runTo s.arb.gapEnd).startInsert e rest else s)

/-- The running insert, if it is of the kind. -/
def State.runningOf (s : State) (kind : InsertKind) : Option ModuleId :=
  match s.arb.running with
  | some e => if e.kind = kind then some e.module else none
  | none => none

/-- A suspension settled by its STATUS_CHECK (R95). -/
def State.settleSuspension (s : State) (k : ModuleId) (b : Byte) : State :=
  let l := s.slotLive k
  if statusSuspended b then
    let s1 := (s.setSlotRec k { s.slotRec k with state := .suspended, busyMs := l.busyMs s.ms }).setSlotLive k
      { l.stopTimer s.ms with state := .suspended, step := some .parked }
    if s.mon.state.isAway then s1 else s1.resumeSlot k
  else s.closeSlot k (if statusFail b then .failed else .done)

/-- An operation settled by its STATUS_CHECK (R98). -/
def State.settleCheck (s : State) (k : ModuleId) (b : Byte) : State :=
  let l := s.slotLive k
  if statusReady b then s.closeSlot k (if statusFail b then .failed else .done)
  else s.setSlotLive k { l.runTimer s.ms with step := some .busy }

/-- Whether the slot's step takes a STATUS_CHECK as a suspension's (R95). -/
def SlotStep.takesSuspension : SlotStep → Bool
  | .suspending => true
  | .checking => true
  | .rechecking => true
  | .waiting => false
  | .releaseQueued => false
  | .releasing => false
  | .busy => false
  | .parked => false
  | .resuming => false

/-- The report of a STATUS_CHECK to slot k (R95, R98). -/
def State.statusReport (s : State) (k : ModuleId) (b : Byte) : State :=
  let l := s.slotLive k
  match l.state, l.step with
  | .issued, some step =>
    if l.suspendFlag && step.takesSuspension then s.settleSuspension k b
    else if !l.suspendFlag && decide (step = .checking) then s.settleCheck k b
    else s
  | .suspended, some step => if l.suspendFlag && step.takesSuspension then s.settleSuspension k b else s
  | _, _ => s

/-- STATUS_CHECK_COMPLETE (R98). -/
def execStatusCheckComplete (b : Byte) (s : State) : Host.Outcome State Fault Refusal :=
  .next (s.serving fun s =>
    match s.runningOf .statusCheck with
    | some k => s.insertEnds.statusReport k b
    | none => s)

/-- The report of a SUSPEND to slot k (R94); a slot that is FREE drops it (R99). R94 gives the busy line for a slot in
SUSPENDING alone, which waits there. DESIGN CHOICE (log 35): with the line busy a slot in RECHECKING stays as it is, and so does one
already in CHECKING, whose ready return came while the SUSPEND ran; its STATUS_CHECK stays queued. -/
def State.suspendReport (s : State) (k : ModuleId) (ready : Bool) : State :=
  let l := s.slotLive k
  if ready then
    match l.state with
    | .issued => (s.request k .statusCheck).setSlotLive k { l.stopTimer s.ms with step := some .checking }
    | .suspended => (s.request k .statusCheck).setSlotLive k { l.stopTimer s.ms with step := some .rechecking }
    | .free => s
    | .held => s
  else s

/-- SUSPEND_COMPLETE (R94). -/
def execSuspendComplete (ready : Bool) (s : State) : Host.Outcome State Fault Refusal :=
  .next (s.serving fun s =>
    match s.runningOf .suspend with
    | some k => s.insertEnds.suspendReport k ready
    | none => s)

/-- Slot k is ISSUED again after its RELEASE or RESUME, whose timer state is `l`: a kept return is taken at once (R97), a SUSPEND
queued meanwhile puts it in SUSPENDING (R88, R93), and else it is in BUSY. -/
def State.issuedAgain (s : State) (k : ModuleId) (l : SlotLive) : State :=
  if l.keptReturn then
    (s.request k .statusCheck).setSlotLive k
      { l.stopTimer s.ms with state := .issued, step := some .checking, keptReturn := false }
  else
    s.setSlotLive k
      { l with state := .issued, step := if s.isQueued k .suspend then some .suspending else some .busy }

/-- The report of a RESUME to slot k (R96): the busy timer counts on. -/
def State.resumeReport (s : State) (k : ModuleId) : State :=
  let l := s.slotLive k
  if l.state = .suspended then s.issuedAgain k (l.runTimer s.ms) else s

/-- RESUME_COMPLETE (R96). -/
def execResumeComplete (s : State) : Host.Outcome State Fault Refusal :=
  .next (s.serving fun s =>
    match s.runningOf .resume with
    | some k => s.insertEnds.resumeReport k
    | none => s)

/-- The report of a RELEASE to slot k (R88): the slot leaves the release queue. DESIGN CHOICE (log 39): the record, ISSUED since the
insert's start, is not written again, so the ms counted in RELEASING are not yet in its retained busy time. -/
def State.releaseReport (s : State) (k : ModuleId) : State :=
  let l := s.slotLive k
  if l.state = .held then (s.onReleaseQueue fun q => q.filter fun m => decide (m ≠ k)).issuedAgain k l else s

/-- RELEASE_COMPLETE (R88). -/
def execReleaseComplete (s : State) : Host.Outcome State Fault Refusal :=
  .next (s.serving fun s =>
    match s.runningOf .release with
    | some k => s.insertEnds.releaseReport k
    | none => s)

end Sys2Proof.Machine
end

