-- ==== Sys2Proof/Machine/ModuleEvents.lean ====
section
/-! DEFINITION. The meanings of a module's ready return and of the four busy limits and the hold limit (R9, R13 to R16, R89,
R97, R99). A limit is taken at its moment: the time base runs on to it (log 3). -/

namespace Sys2Proof.Machine

/-- The ready return as slot k takes it (R97): an ISSUED slot in BUSY or SUSPENDING requests its STATUS_CHECK; while the slot's
RELEASE or RESUME runs the return is kept. -/
def State.slotReturn (s : State) (k : ModuleId) : State :=
  let l := s.slotLive k
  match l.state, l.step with
  | .issued, some .busy => (s.request k .statusCheck).setSlotLive k { l.stopTimer s.ms with step := some .checking }
  | .issued, some .suspending => (s.request k .statusCheck).setSlotLive k { l.stopTimer s.ms with step := some .checking }
  | .held, some .releasing => s.setSlotLive k { l with keptReturn := true }
  | .suspended, some .resuming =>
    if s.isRunning k .resume then s.setSlotLive k { l with keptReturn := true } else s
  | _, _ => s

/-- The ready return of module k, handed to whichever waits on it (R16). -/
def State.readyReturn (s : State) (k : ModuleId) : State :=
  if (s.relay.readBusy.get k).isSome then s.onRelay fun r => { r with readBusy := r.readBusy.set k none }
  else if (s.relay.resetBusy.get k).isSome then
    s.onRelay fun r =>
      { r with
        resetBusy := r.resetBusy.set k none
        stuck := r.stuck.set k false
        readyFail := r.readyFail.set k false }
  else if (s.relay.residual.get k).isSome then s.onRelay fun r => { r with residual := r.residual.set k none }
  else s.slotReturn k

/-- MODULE_READY_RETURN (R16). -/
def execModuleReadyReturn (k : ModuleId) (s : State) : Host.Outcome State Fault Refusal :=
  .next (s.serving fun s => s.readyReturn k)

/-- The read whose busy period has timed out, if it is still open: it ends for the tag engine and its strobes are answered 0xFF
(R13, R39). -/
def State.timeOutRead (s : State) (k : ModuleId) : State :=
  match s.relay.seq with
  | some q =>
    if q.module = k ∧ q.kind = .read ∧ q.handling = .passed ∧ q.closeTaken then
      s.readEnds.setSeq (some { q with timedOut := true })
    else s
  | none => s

/-- READ_BUSY_TIMEOUT (R13). -/
def execReadBusyTimeout (k : ModuleId) (s : State) : Host.Outcome State Fault Refusal :=
  .next (s.serving fun s =>
    match s.relay.readBusy.get k with
    | some due =>
      (((s.runTo due).onRelay fun r => { r with readBusy := r.readBusy.set k none }).makeStuck k).timeOutRead k
    | none => s)

/-- RESET_BUSY_TIMEOUT (R15). -/
def execResetBusyTimeout (k : ModuleId) (s : State) : Host.Outcome State Fault Refusal :=
  .next (s.serving fun s =>
    match s.relay.resetBusy.get k with
    | some due => ((s.runTo due).onRelay fun r => { r with resetBusy := r.resetBusy.set k none }).makeStuck k
    | none => s)

/-- RESIDUAL_BUSY_TIMEOUT (R9). -/
def execResidualBusyTimeout (k : ModuleId) (s : State) : Host.Outcome State Fault Refusal :=
  .next (s.serving fun s =>
    match s.relay.residual.get k with
    | some due => ((s.runTo due).onRelay fun r => { r with residual := r.residual.set k none }).makeStuck k
    | none => s)

/-- The ms at which a running busy timer passes the limit (R99). -/
def SlotLive.expiryMs (l : SlotLive) (start limit : Nat) : Nat := start + (limit + 1 - l.timerValue)

/-- BUSY_TIMER_EXPIRY (R99): an ISSUED slot withdraws its insert, closes TIMED_OUT and reports the timeout (R14). A slot that is HELD
or SUSPENDED cannot time out, so a limit passed in RELEASING is met once the slot is ISSUED (R82). -/
def execBusyTimerExpiry (k : ModuleId) (s : State) : Host.Outcome State Fault Refusal :=
  .next (s.serving fun s =>
    let l := s.slotLive k
    match l.state, l.timerFrom with
    | .issued, some start =>
      (((s.runTo (1000 * l.expiryMs start (s.slotRec k).limitMs)).withdraw k).closeSlot k .timedOut).makeStuck k
    | _, _ => s)

/-- HOLD_LIMIT_EXPIRY (R89). -/
def execHoldLimitExpiry (k : ModuleId) (s : State) : Host.Outcome State Fault Refusal :=
  .next (s.serving fun s =>
    if s.isWaiting k then
      (s.runTo (1000 * ((s.slotRec k).holdStart.getD s.ms + s.ret.settings.holdLimit.toNat + 1))).breakHold k
    else s)

end Sys2Proof.Machine
end

