-- ==== Sys2Proof/Machine/MonitorOps.lean ====
section
/-! DEFINITION. The drop monitor: taking a sample report in each state, strikes, the blind spell (R60 to R71). -/

namespace Sys2Proof.Machine

/-- An impact sample (R60). -/
def Report.isImpact (r : Report) (t : Settings) : Bool :=
  r.fresh && (decide (t.impactLevel ≤ (r.sample.l1 : Int)) || r.saturated)

/-- The axis with the largest absolute value, ties to x before y before z (R70). -/
def peakAxis (c : Sample) : Axis :=
  if c.cy.natAbs ≤ c.cx.natAbs ∧ c.cz.natAbs ≤ c.cx.natAbs then .x
  else if c.cz.natAbs ≤ c.cy.natAbs then .y else .z

/-- An impact sample taken into a record's peak and saturated flag (R70). -/
def ShockRec.takeImpact (k : ShockRec) (r : Report) : ShockRec :=
  let higher := match k.peak with
    | none => true
    | some p => decide (p.l1 < r.sample.l1)
  { k with
    peak := if higher then some { l1 := r.sample.l1, axis := peakAxis r.sample } else k.peak
    saturated := k.saturated || r.saturated }

/-- A report taken as a strike (R70). -/
def ShockRec.takeStrike (k : ShockRec) (r : Report) : ShockRec :=
  { k.takeImpact r with strikes := min (k.strikes + 1) 255 }

/-- The fall duration grows, saturating at 65535 (R62, R65). -/
def ShockRec.addDuration (k : ShockRec) (n : Nat) : ShockRec := { k with duration := min (k.duration + n) 65535 }

/-- The modules whose slot is HELD. -/
def State.heldModules (s : State) : List ModuleId :=
  ModuleId.all.filter fun k => decide ((s.slotLive k).state = .held)

/-- The monitor opens a record (R69): the counted sets start with the modules HELD now (R72). -/
def State.openRecord (s : State) (kind : ShockKind) (duration strikes : Nat) : State :=
  let held := s.heldModules
  let c := s.createShock (s.newShock kind duration strikes 0 held.length) true
  c.1.onMon fun m => { m with openRec := some c.2, heldCounted := held, exposedCounted := [] }

/-- The monitor's state and counts. -/
def State.setMon (s : State) (st : MonState) (lowRun settle : Nat) : State :=
  s.onMon fun m => { m with state := st, lowRun := lowRun, settle := settle }

/-- Entry into BLIND (R67). A departure from CALM wakes the part (R66, R191). -/
def State.enterBlind (s : State) : State :=
  let wasCalm := decide (s.mon.state = .calm)
  let s1 := (s.closeOpenRec.openRecord .blind 0 0).blindSignals.setMon .blind 0 0
  if wasCalm then s1.departureWakes else s1

/-- A report in CALM (R61). -/
def State.reportCalm (s : State) (r : Report) : State :=
  let t := s.ret.settings
  if r.isImpact t then
    let s1 := (s.openRecord .knock 0 0).changeOpenRec fun k => k.takeStrike r
    (s1.setMon .struck 0 s.mon.settle).departureSignals.departureWakes
  else if (r.average : Int) < t.fallLevel then
    let n := min (s.mon.lowRun + 1) 255
    if t.fallConfirm ≤ (n : Int) then
      ((s.openRecord .fall t.fallConfirm.toNat 0).setMon .falling 0 s.mon.settle).departureSignals.departureWakes
    else s.setMon .calm n s.mon.settle
  else s.setMon .calm 0 s.mon.settle

/-- A report in FALLING (R62). -/
def State.reportFalling (s : State) (r : Report) : State :=
  let t := s.ret.settings
  let s0 := s.changeOpenRec fun k => k.addDuration 1
  if r.isImpact t then
    (s0.changeOpenRec fun k => { k.takeStrike r with kind := .drop }).setMon .struck s.mon.lowRun s.mon.settle
  else if t.fallExit ≤ (r.average : Int) then s0.setMon .settling 0 0
  else s0

/-- A report in STRUCK (R63). -/
def State.reportStruck (s : State) (r : Report) : State :=
  if r.isImpact s.ret.settings then s.changeOpenRec fun k => k.takeImpact r
  else s.setMon .settling 0 0

/-- FALL becomes DROP at a strike; KNOCK and DROP stay (R64). -/
def ShockKind.struck : ShockKind → ShockKind
  | .fall => .drop
  | .drop => .drop
  | .knock => .knock
  | .dropout => .dropout
  | .blind => .blind

/-- KNOCK becomes DROP at a fall; FALL and DROP stay (R65). -/
def ShockKind.fell : ShockKind → ShockKind
  | .fall => .fall
  | .drop => .drop
  | .knock => .drop
  | .dropout => .dropout
  | .blind => .blind

/-- A report in SETTLING (R64, R65). -/
def State.reportSettling (s : State) (r : Report) : State :=
  let t := s.ret.settings
  if r.isImpact t then
    (s.changeOpenRec fun k => { k.takeStrike r with kind := k.kind.struck }).setMon .struck 0 0
  else
    let low := if (r.average : Int) < t.fallLevel then min (s.mon.lowRun + 1) 255 else 0
    let settle :=
      if t.restLow ≤ (r.average : Int) ∧ (r.average : Int) ≤ t.restHigh then min (s.mon.settle + 1) 4095 else 0
    if t.fallConfirm ≤ (low : Int) then
      (s.changeOpenRec fun k => { k.addDuration t.fallConfirm.toNat with kind := k.kind.fell }).setMon .falling 0 0
    else if t.settleCount ≤ (settle : Int) then (s.closeOpenRec.setMon .calm 0 0).calmSignals
    else s.setMon .settling low settle

/-- A report in BLIND (R68): the first fresh one ends the spell. -/
def State.reportBlind (s : State) (r : Report) : State :=
  if r.fresh then
    ((s.changeOpenRec fun k => { k with duration := min r.staleRun 65535 }).closeOpenRec.setMon .calm 0 0).resumeAll
  else s

/-- The monitor takes a sample report (R60). -/
def State.takeReport (s : State) (r : Report) : State :=
  match s.mon.state with
  | .blind => s.reportBlind r
  | .calm => if r.staleCount = Config.blindRun then s.enterBlind else s.reportCalm r
  | .falling => if r.staleCount = Config.blindRun then s.enterBlind else s.reportFalling r
  | .struck => if r.staleCount = Config.blindRun then s.enterBlind else s.reportStruck r
  | .settling => if r.staleCount = Config.blindRun then s.enterBlind else s.reportSettling r

end Sys2Proof.Machine
end

