-- ==== Sys2Proof/Machine/Motion.lean ====
section
/-! DEFINITION. The meanings of a poll falling due and of a sample arrival (R43 to R48, R58, R190). -/

namespace Sys2Proof.Machine

/-- The bytes clocked out in a sensor transfer (R43). -/
def sensorCommand : List Byte := 0xC0 :: List.replicate 7 0x00

/-- The WAIT held for a wake is released at `now` (R190); a gap owed to the last insert then counts from here, since WAIT has not
been released through it (R21). -/
def Arbiter.endWake (a : Arbiter) (now : Nat) : Arbiter :=
  { a with wakeWait := false, gapFrom := if a.wakeWait then a.gapFrom.map fun _ => now else a.gapFrom }

/-- A poll falls due with the port IDLE (R44): a transfer starts, the next due time is one period after this one, and the WAIT
held for a wake is released (R190). -/
def State.poll (s : State) : State :=
  let s1 := s.runTo s.fe.nextPoll
  ((s1.onFe fun f =>
    { f with transfer := some (s1.now + Config.transferTime), nextPoll := f.nextPoll + f.pollPeriod }).onArb fun a =>
    a.endWake s1.now).onPorts fun p => { p with sensorOut := sensorCommand }

/-- POLL_DUE (R44). A transfer always ends before the next poll falls due (R43), so a poll finds the port IDLE. -/
def execPollDue (s : State) : Host.Outcome State Fault Refusal :=
  .next (s.serving fun s =>
    match s.fe.transfer with
    | none => s.poll
    | some _ => s)

/-- A reply classified and processed, and its report handed to the monitor (R46 to R48, R58). -/
def State.takeReply (s : State) (r : SensorReply) : State :=
  if replyFresh r then
    let p := s.fe.takeFresh s.ret.settings r
    (s.onFe fun _ => p.1).takeReport p.2
  else
    let p := s.fe.takeStale
    ((s.onFe fun _ => p.1).count .stale).takeReport p.2

/-- SAMPLE_ARRIVAL (R46): the end of the running transfer. -/
def execSampleArrival (r : SensorReply) (s : State) : Host.Outcome State Fault Refusal :=
  .next (s.serving fun s =>
    match s.fe.transfer with
    | some due => ((s.runTo due).onFe fun f => { f with transfer := none }).takeReply r
    | none => s)

end Sys2Proof.Machine
end

