-- ==== Sys2Proof/Machine/Reports.lean ====
section
/-! DEFINITION. The meanings of the seven report pages: the close code of the open service read of that page (R105, R154, R161,
R175 to R178). -/

namespace Sys2Proof.Machine

/-- The close code of the open service read of page `p`: its snapshot with its side effect. Where no service read of page `p`
waits for its close code the event does not occur (log 4). -/
def State.reportPage (s : State) (p : BitVec 7) : State :=
  match s.closing .read with
  | none => s
  | some q =>
    match q.handling with
    | .svcReport page _ => if page = p then s.endNested.closeRead { q with closeTaken := true } else s
    | .latching => s
    | .discarded => s
    | .refused => s
    | .absent => s
    | .passed => s
    | .svcFrame => s
    | .svcBlank => s

/-- REPORT_PAGE_1 (R177). -/
def execReportPage1 (s : State) : Host.Outcome State Fault Refusal := .next (s.serving fun s => s.reportPage 1)

/-- REPORT_PAGE_2 (R176, R180). -/
def execReportPage2 (s : State) : Host.Outcome State Fault Refusal := .next (s.serving fun s => s.reportPage 2)

/-- REPORT_PAGE_3 (R161). -/
def execReportPage3 (s : State) : Host.Outcome State Fault Refusal := .next (s.serving fun s => s.reportPage 3)

/-- REPORT_PAGE_4 (R154). -/
def execReportPage4 (s : State) : Host.Outcome State Fault Refusal := .next (s.serving fun s => s.reportPage 4)

/-- REPORT_PAGE_5 (R105). -/
def execReportPage5 (s : State) : Host.Outcome State Fault Refusal := .next (s.serving fun s => s.reportPage 5)

/-- REPORT_PAGE_6 (R178). -/
def execReportPage6 (s : State) : Host.Outcome State Fault Refusal := .next (s.serving fun s => s.reportPage 6)

/-- REPORT_PAGE_7 (R40, R176). -/
def execReportPage7 (s : State) : Host.Outcome State Fault Refusal := .next (s.serving fun s => s.reportPage 7)

end Sys2Proof.Machine
end

