-- ==== Sys2Proof/Machine/Reset.lean ====
section
/-! DEFINITION. Power loss, the two resets and reconciliation (R9, R59, R106, R119, R130 to R141, R187, R193, R194). -/

namespace Sys2Proof.Machine

/-! ### Step 1 (R130, R132) -/

/-- Every volatile value lost. Retained memory, the input pins and the model's own fields stay. -/
def State.loseVolatile (s : State) : State :=
  { State.reset with
    phase := .unpowered
    resetPin := s.resetPin
    ce := s.ce
    ret := s.ret
    freeIndex := s.freeIndex
    pending := s.pending }

/-- Step 1 of a warm reset: everything in progress is abandoned and the causes are cleared; Q with its flags and the stamp keep
their live values, and the straps those of the last sampling. -/
def State.abandon (s : State) : State :=
  { s.loseVolatile with
    phase := .inReset .warm
    straps := s.straps
    gauge := { State.reset.gauge with q := s.gauge.q, underrun := s.gauge.underrun, unknown := s.gauge.unknown }
    clock := { State.reset.clock with stamp := s.clock.stamp } }

/-! ### Steps 3 to 8 (R132) -/

/-- Step 4: memory without its format marker is set up, and the reset is then the first power-on ever (R141, R194). -/
def ResetKind.readMemory (kind : ResetKind) (m : Retained) : ResetKind × Retained :=
  if m.marker then (kind, m) else (.powerOn, Retained.setUp)

/-- Step 5: the charge with its flags, restored and clamped at power-on, live at warm reset (R114). -/
def State.resetCharge (s : State) : ResetKind → ChargeCopy
  | .powerOn => { s.ret.chargeCopy with q := min s.ret.chargeCopy.q s.ret.settings.full }
  | .warm => { q := s.gauge.q, underrun := s.gauge.underrun, unknown := s.gauge.unknown }

/-- Step 5: the stamp, restored at power-on, live at warm reset (R192). -/
def State.resetStamp (s : State) : ResetKind → Nat
  | .powerOn => s.ret.stampCopy
  | .warm => s.clock.stamp

/-- Steps 5 and 6: the gauge and the stamp, with both conditions judged afresh on the reset sample (R106, R117, R119). -/
def State.resetGauge (s : State) (kind : ResetKind) (mv : Nat) : State :=
  let c := s.resetCharge kind
  let t := s.ret.settings
  { s with
    gauge := Gauge.initial c mv (voltageAfresh t mv) (chargeAfresh t c.q)
    clock := StampClock.initial (s.resetStamp kind) }

/-- Step 7: a record left open is the record of a reconciliation cut off (R137). -/
def State.interrupted (s : State) : Bool := s.ret.shocks.any fun r => r.isOpen && decide (r.kind = .dropout)

/-- Step 7: every open record is closed as it stands (R59). -/
def State.closeRecords (s : State) : State := s.onRet fun m => { m with shocks := m.shocks.map ShockRec.close }

/-- The modules whose retained slot record is live (R133). -/
def State.liveRecords (s : State) : List ModuleId := ModuleId.all.filter fun k => (s.slotRec k).state.isLive

/-- Outcome and reason of a slot found live (R133). -/
def SlotState.lostOrTorn : SlotState → SlotOutcome × Reason
  | .free => (.lost, .lost)
  | .held => (.lost, .lost)
  | .issued => (.torn, .torn)
  | .suspended => (.torn, .torn)

/-- Slot k closed by reconciliation, with its entry handed in the same write (R133, R134). -/
def State.reconcileSlot (s : State) (k : ModuleId) : State :=
  let r := s.slotRec k
  let o := r.state.lostOrTorn
  (s.setSlotRec k { r with state := .free, last := some o.1 }).handRequest (r.entry k o.2 s.clock.stamp) false

/-- The DROPOUT record's fields before the log numbers it (R135). -/
def State.dropout (s : State) : ShockRec :=
  let held := s.liveRecords.filter fun k => decide ((s.slotRec k).state = .held)
  s.newShock .dropout 0 0 (s.liveRecords.length - held.length) held.length

/-- Reconciliation's records: the DROPOUT record is created, unless an interrupted one was found, the live slots are closed in
module order, and the record is closed at step 9 (R133 to R137). -/
def State.reconcile (s : State) (interrupted : Bool) : State :=
  if s.liveRecords.isEmpty then s
  else if interrupted then s.liveRecords.foldl State.reconcileSlot s
  else
    let c := s.createShock s.dropout false
    (s.liveRecords.foldl State.reconcileSlot c.1).changeShock c.2 ShockRec.close

/-- The MODULE RESET codes reconciliation sends to the present modules among those whose slots it closed (R138). -/
def State.resetModules (s : State) (closed : List ModuleId) : State :=
  s.drive ((closed.filter fun k => s.present k).map fun k => .code k ChannelCode.moduleReset.byte)

/-! ### Step 9 (R9, R136, R139) -/

/-- Whether a residual busy period starts for module k (R9, R138). -/
def State.residualStarts (s : State) (closed : List ModuleId) (rbBusy : PerModule Bool) (k : ModuleId) : Option Nat :=
  if s.present k && (closed.contains k || rbBusy.get k) then some Config.residualLimit else none

/-- The relay as the drive port is first served: no view is busy but by a residual busy period (R9). Cycles after an open code
ignored under the WAIT of the reset are absorbed on (R19). -/
def State.residuals (s : State) (closed : List ModuleId) (rbBusy : PerModule Bool) : State :=
  s.onRelay fun _ =>
    { Relay.initial with
      absorb := s.relay.absorb
      residual :=
        ⟨s.residualStarts closed rbBusy .m0, s.residualStarts closed rbBusy .m1, s.residualStarts closed rbBusy .m2,
         s.residualStarts closed rbBusy .m3⟩ }

/-- The volatile state of the blocks that hold nothing of the reset itself (R139). -/
def State.serveFirst (s : State) (restartLoss : Bool) : State :=
  { s with
    phase := .running
    now := 0
    arb := Arbiter.initial
    svc := Service.initial
    tag := { program := none, read := none }
    fe := FrontEnd.initial s.ret.settings.window.toNat
    mon := Monitor.initial
    slots := PerModule.const SlotLive.empty
    releaseQueue := []
    counters := Counters.zero
    causes := if restartLoss then AttnCause.restartLoss.bit else 0
    doze := { dozing := false, idleFromMs := 0 } }

/-- Steps 3 to 9 of a reset (R132). -/
def State.runReset (s : State) (kind : ResetKind) (inp : ResetInputs) : State :=
  let m := kind.readMemory s.ret
  let s4 : State := { s with straps := { svcSel := inp.svcSel, modCnt := inp.modCnt }, ret := m.2 }
  let s6 := s4.resetGauge m.1 inp.sample.toNat
  let live := s6.liveRecords
  let s8 := (s6.closeRecords.reconcile s6.interrupted).resetModules live
  (s8.serveFirst (!live.isEmpty || s6.interrupted)).residuals live inp.rbBusy

/-! ### The four events -/

/-- POWER_LOSS (R130): the supply falls below 2.9 V. -/
def execPowerLoss (s : State) : Host.Outcome State Fault Refusal := .next s.loseVolatile

/-- The supply returns to a part without it: with RESET# asserted the reset waits at step 2 (R130, R132). -/
def State.powerOn (s : State) (inp : ResetInputs) : State :=
  if s.resetPin then { s with phase := .inReset .powerOn } else s.runReset .powerOn inp

/-- POWER_ON (R132). On a part that has its supply the event does not occur and nothing changes (log 4). -/
def execPowerOn (inp : ResetInputs) (s : State) : Host.Outcome State Fault Refusal :=
  .next (match s.phase with
    | .unpowered => s.begin.powerOn inp
    | .running => s.begin
    | .inReset _ => s.begin)

/-- RESET# is asserted: a part with supply starts a warm reset and waits at step 2 (R130, R132). -/
def State.assertReset (s : State) : State :=
  if s.resetPin then s.begin
  else
    match s.phase with
    | .unpowered => { s.begin with resetPin := true }
    | .running => { s.abandon with resetPin := true }
    | .inReset _ => { s.abandon with resetPin := true }

/-- RESET_ASSERT (R130). -/
def execResetAssert (s : State) : Host.Outcome State Fault Refusal := .next s.assertReset

/-- RESET# is released: a reset that waits at step 2 goes on (R130, R132). -/
def State.releaseReset (s : State) (inp : ResetInputs) : State :=
  match s.phase with
  | .inReset kind => { s.begin with resetPin := false }.runReset kind inp
  | .running => { s.begin with resetPin := false }
  | .unpowered => { s.begin with resetPin := false }

/-- RESET_RELEASE (R132). With RESET# not asserted the event does not occur and nothing changes (log 4). -/
def execResetRelease (inp : ResetInputs) (s : State) : Host.Outcome State Fault Refusal :=
  .next (if s.resetPin then s.releaseReset inp else s.begin)

end Sys2Proof.Machine
end

