-- ==== Sys2Proof/Machine/Sequences.lean ====
section
/-! DEFINITION. The meanings of the open codes, the address cycle and the CE# pins (R2 to R4, R8, R15, R188). -/

namespace Sys2Proof.Machine

/-- READ_OPEN (R2). -/
def execReadOpen (s : State) : Host.Outcome State Fault Refusal := .next (s.hearing fun s => s.openLatched .read)

/-- PROGRAM_OPEN (R2). -/
def execProgramOpen (s : State) : Host.Outcome State Fault Refusal := .next (s.hearing fun s => s.openLatched .program)

/-- ERASE_OPEN (R2). -/
def execEraseOpen (s : State) : Host.Outcome State Fault Refusal := .next (s.hearing fun s => s.openLatched .erase)

/-- IDENTIFY (R2). -/
def execIdentify (s : State) : Host.Outcome State Fault Refusal := .next (s.hearing fun s => s.openLatched .identify)

/-- A STATUS opened to module k, nested in the open read or IDENTIFY, where it ends one nested before it, or a sequence of its own
(R2, R8; log 10). -/
def State.openStatus (s : State) (k : ModuleId) : State :=
  if s.nests k then
    (s.endNested.forwardStatus k).onRelay fun r => { r with absorb := false, stray := false, nested := some (s.statusAnswer k) }
  else
    let s1 := s.endForOpen
    (s1.forwardStatus k).setSeq (some (statusSeq k (s1.statusAnswer k)))

/-- STATUS (R8). -/
def execStatus (s : State) : Host.Outcome State Fault Refusal :=
  .next (s.hearing fun s =>
    match s.openCheck with
    | .ignored => s
    | .counted => s.ignoreOpen
    | .taken k => s.openStatus k)

/-- Slot k at a MODULE RESET of its module: a held operation closes WITHDRAWN, an issued or suspended one ABORTED (R100). -/
def State.resetSlot (s : State) (k : ModuleId) : State :=
  match (s.slotLive k).state with
  | .free => s
  | .held => s.closeSlot k .withdrawn
  | .issued => s.closeSlot k .aborted
  | .suspended => s.closeSlot k .aborted

/-- A MODULE RESET to module k (R12, R15). -/
def State.moduleReset (s : State) (k : ModuleId) : State :=
  let s1 :=
    if s.present k then
      ((((s.clearForClass k).withdraw k).resetSlot k).forward [.code k ChannelCode.moduleReset.byte]).onRelay fun r =>
        { r with
          readBusy := r.readBusy.set k none
          residual := r.residual.set k none
          resetBusy := r.resetBusy.set k (some (s.now + Config.resetBusyLimit)) }
    else s
  s1.idleZero

/-- MODULE_RESET (R15): the sequence ends with its code. -/
def execModuleReset (s : State) : Host.Outcome State Fault Refusal := .next (s.hearing fun s => s.openCode State.moduleReset)

/-- A SUSPEND or RESUME from the drive controller: discarded and counted, and ended with its code (R4, R12). -/
def State.discardCode (s : State) (k : ModuleId) : State :=
  let s1 := if s.present k then s.clearForClass k else s
  (s1.count .protocol).idleZero

/-- SUSPEND (R4). -/
def execSuspend (s : State) : Host.Outcome State Fault Refusal := .next (s.hearing fun s => s.openCode State.discardCode)

/-- RESUME (R4). -/
def execResume (s : State) : Host.Outcome State Fault Refusal := .next (s.hearing fun s => s.openCode State.discardCode)

/-- An address cycle: latched in the address phase, and the last one classifies the sequence; anywhere else it is absorbed
(R3, log 12). DESIGN CHOICE (log 36): it is the open sequence's whatever the CE# pins show. -/
def State.takeAddress (s : State) (b : Byte) : State :=
  match s.relay.absorb, s.relay.nested, s.relay.seq with
  | false, none, some q =>
    if q.handling = .latching then
      let q1 := { q with latched := q.latched ++ [b] }
      if q.kind.addressCycles ≤ q1.latched.length then s.latchedAll q1 else s.setSeq (some q1)
    else s
  | _, _, _ => s

/-- ADDRESS_CYCLE (R3). -/
def execAddressCycle (b : Byte) (s : State) : Host.Outcome State Fault Refusal := .next (s.serving fun s => s.takeAddress b)

/-- The level of CE#k. -/
def State.setCe (s : State) (k : ModuleId) (v : Bool) : State := { s with ce := s.ce.set k v }

/-- CE_ASSERT (R188, R190): the pin is an input, so it follows in every phase; on a part that serves the port, a DOZE wakes with
WAIT held, and in ACTIVE the idle time becomes 0. DESIGN CHOICE (log 4): so it does for a CE# that is already asserted. -/
def execCeAssert (k : ModuleId) (s : State) : Host.Outcome State Fault Refusal :=
  .next ((s.serving fun s =>
    if s.doze.dozing then s.wake.onArb fun a => { a with wakeWait := true } else s.idleZero).setCe k true)

/-- CE_DEASSERT (R2): the open read or IDENTIFY of the module ends. DESIGN CHOICE (log 4): also for a CE# that is not asserted. -/
def execCeDeassert (k : ModuleId) (s : State) : Host.Outcome State Fault Refusal :=
  .next ((s.serving fun s =>
    match s.relay.seq with
    | some q => if q.module = k ∧ (q.kind = .read ∨ q.kind = .identify) then s.endSequence else s
    | none => s).setCe k false)

end Sys2Proof.Machine
end

