-- ==== Sys2Proof/Machine/Timebase.lean ====
section
/-! DEFINITION. The meanings of the stamp counter's events and of doze entry (R189, R192, R193). -/

namespace Sys2Proof.Machine

/-- STAMP_SECOND (R192): the stamp grows by 1, wrapping at 2^32. -/
def execStampSecond (s : State) : Host.Outcome State Fault Refusal :=
  .next (s.serving fun s =>
    (s.runTo s.clock.nextSecond).onClock fun c =>
      { c with stamp := (c.stamp + 1) % 4294967296, nextSecond := c.nextSecond + Config.stampPeriod })

/-- Writes the retained copy of the stamp (R193). -/
def State.writeStampCopy (s : State) : State := s.onRet fun m => { m with stampCopy := s.clock.stamp }

/-- STAMP_COPY_DUE (R193). -/
def execStampCopyDue (s : State) : Host.Outcome State Fault Refusal :=
  .next (s.serving fun s =>
    ((s.runTo s.clock.nextCopy).onClock fun c => { c with nextCopy := c.nextCopy + Config.copyPeriod }).writeStampCopy)

/-- DOZE_ENTRY (R189): the part enters DOZE if all its conditions hold, and stays ACTIVE otherwise. -/
def execDozeEntry (s : State) : Host.Outcome State Fault Refusal :=
  .next (s.serving fun s =>
    if s.mayDoze then s.fallAsleep else s)

end Sys2Proof.Machine
end

