-- ==== Sys2Proof/Machine/Dispatch.lean ====
section
/-! DEFINITION. Which meaning each command has: one arm per constructor of `Instr`, in the order of spec/opcode_table.json. -/

namespace Sys2Proof.Machine

def exec (i : Instr) (s : State) : Host.Outcome State Fault Refusal :=
  match i with
  | .readOpen => Sys2Proof.Machine.execReadOpen s
  | .programOpen => Sys2Proof.Machine.execProgramOpen s
  | .eraseOpen => Sys2Proof.Machine.execEraseOpen s
  | .identify => Sys2Proof.Machine.execIdentify s
  | .status => Sys2Proof.Machine.execStatus s
  | .moduleReset => Sys2Proof.Machine.execModuleReset s
  | .suspend => Sys2Proof.Machine.execSuspend s
  | .resume => Sys2Proof.Machine.execResume s
  | .addressCycle b => Sys2Proof.Machine.execAddressCycle b s
  | .columnMove col => Sys2Proof.Machine.execColumnMove col s
  | .dataInCycle b => Sys2Proof.Machine.execDataInCycle b s
  | .dataOutStrobe b => Sys2Proof.Machine.execDataOutStrobe b s
  | .readClose => Sys2Proof.Machine.execReadClose s
  | .programClose => Sys2Proof.Machine.execProgramClose s
  | .eraseClose => Sys2Proof.Machine.execEraseClose s
  | .unplacedCode c => Sys2Proof.Machine.execUnplacedCode c s
  | .ceAssert k => Sys2Proof.Machine.execCeAssert k s
  | .ceDeassert k => Sys2Proof.Machine.execCeDeassert k s
  | .moduleReadyReturn k => Sys2Proof.Machine.execModuleReadyReturn k s
  | .readBusyTimeout k => Sys2Proof.Machine.execReadBusyTimeout k s
  | .resetBusyTimeout k => Sys2Proof.Machine.execResetBusyTimeout k s
  | .residualBusyTimeout k => Sys2Proof.Machine.execResidualBusyTimeout k s
  | .busyTimerExpiry k => Sys2Proof.Machine.execBusyTimerExpiry k s
  | .holdLimitExpiry k => Sys2Proof.Machine.execHoldLimitExpiry k s
  | .insertStart => Sys2Proof.Machine.execInsertStart s
  | .statusCheckComplete b => Sys2Proof.Machine.execStatusCheckComplete b s
  | .suspendComplete ready => Sys2Proof.Machine.execSuspendComplete ready s
  | .resumeComplete => Sys2Proof.Machine.execResumeComplete s
  | .releaseComplete => Sys2Proof.Machine.execReleaseComplete s
  | .pollDue => Sys2Proof.Machine.execPollDue s
  | .sampleArrival r => Sys2Proof.Machine.execSampleArrival r s
  | .currentSampleDue => Sys2Proof.Machine.execCurrentSampleDue s
  | .currentSampleArrival raw => Sys2Proof.Machine.execCurrentSampleArrival raw s
  | .voltageSampleDue => Sys2Proof.Machine.execVoltageSampleDue s
  | .voltageSampleArrival mv => Sys2Proof.Machine.execVoltageSampleArrival mv s
  | .qCopyDue => Sys2Proof.Machine.execQCopyDue s
  | .stampSecond => Sys2Proof.Machine.execStampSecond s
  | .stampCopyDue => Sys2Proof.Machine.execStampCopyDue s
  | .dozeEntry => Sys2Proof.Machine.execDozeEntry s
  | .powerLoss => Sys2Proof.Machine.execPowerLoss s
  | .powerOn inp => Sys2Proof.Machine.execPowerOn inp s
  | .resetAssert => Sys2Proof.Machine.execResetAssert s
  | .resetRelease inp => Sys2Proof.Machine.execResetRelease inp s
  | .setSetting => Sys2Proof.Machine.execSetSetting s
  | .modifyAttention => Sys2Proof.Machine.execModifyAttention s
  | .setStamp => Sys2Proof.Machine.execSetStamp s
  | .setCharge => Sys2Proof.Machine.execSetCharge s
  | .markFull => Sys2Proof.Machine.execMarkFull s
  | .releaseSuspect => Sys2Proof.Machine.execReleaseSuspect s
  | .clearShockLog => Sys2Proof.Machine.execClearShockLog s
  | .releaseHolds => Sys2Proof.Machine.execReleaseHolds s
  | .clearCounters => Sys2Proof.Machine.execClearCounters s
  | .restoreDefaults => Sys2Proof.Machine.execRestoreDefaults s
  | .reportPage1 => Sys2Proof.Machine.execReportPage1 s
  | .reportPage2 => Sys2Proof.Machine.execReportPage2 s
  | .reportPage3 => Sys2Proof.Machine.execReportPage3 s
  | .reportPage4 => Sys2Proof.Machine.execReportPage4 s
  | .reportPage5 => Sys2Proof.Machine.execReportPage5 s
  | .reportPage6 => Sys2Proof.Machine.execReportPage6 s
  | .reportPage7 => Sys2Proof.Machine.execReportPage7 s
  | .serviceProcessingEnd => Sys2Proof.Machine.execServiceProcessingEnd s

end Sys2Proof.Machine
end

