-- ==== Sys2Proof/Machine/Tick.lean ====
section
/-! DEFINITION. One tick of the time base: 1 µs passes and the part's own timed events that have fallen due join the queue (R13,
R15, R9, R18, R21, R44, R89, R99, R106, R114, R189, R192, R193; log 3). -/

namespace Sys2Proof.Machine

/-- `c` where a condition holds. -/
def postIf (due : Bool) (c : Instr) : List Instr := if due then [c] else []

/-- A busy period whose end has come. -/
def isOver (now : Nat) : Option Nat → Bool
  | some due => decide (due ≤ now)
  | none => false

/-- `c k` for each module k where a condition holds, in module order. -/
def postEach (due : ModuleId → Bool) (c : ModuleId → Instr) : List Instr := (ModuleId.all.filter due).map c

/-- The busy time of slot k, which is ISSUED, has passed its limit (R99). -/
def State.busyTimeOver (s : State) (k : ModuleId) : Bool :=
  match (s.slotLive k).state, (s.slotLive k).timerFrom with
  | .issued, some start => decide (1000 * (s.slotLive k).expiryMs start (s.slotRec k).limitMs ≤ s.now)
  | _, _ => false

/-- The event of a command. -/
def CmdCode.event : CmdCode → Instr
  | .setSetting => .setSetting
  | .modifyAttention => .modifyAttention
  | .setStamp => .setStamp
  | .setCharge => .setCharge
  | .markFull => .markFull
  | .releaseSuspect => .releaseSuspect
  | .clearShockLog => .clearShockLog
  | .releaseHolds => .releaseHolds
  | .clearCounters => .clearCounters
  | .restoreDefaults => .restoreDefaults

/-- The event of the frame that waits for its command, if it passes the checks of R165. -/
def State.frameEvent (s : State) : List Instr :=
  match s.waitingFrame with
  | none => []
  | some bytes =>
    match checkFrame bytes with
    | .ok c => [c.event]
    | .error _ => []

/-- The timed events of the part that have fallen due, in the order the model takes them (log 3). -/
def State.dueEvents (s : State) : List Instr :=
  postIf (s.fe.transfer.isNone && decide (s.fe.nextPoll ≤ s.now)) .pollDue
    ++ postIf (decide (s.gauge.nextCurrent ≤ s.now)) .currentSampleDue
    ++ postIf (decide (s.gauge.nextVoltage ≤ s.now)) .voltageSampleDue
    ++ postIf (decide (s.clock.nextSecond ≤ s.now)) .stampSecond
    ++ postIf (decide (s.gauge.nextCopy ≤ s.now)) .qCopyDue
    ++ postIf (decide (s.clock.nextCopy ≤ s.now)) .stampCopyDue
    ++ postEach (fun k => isOver s.now (s.relay.readBusy.get k)) .readBusyTimeout
    ++ postEach (fun k => isOver s.now (s.relay.resetBusy.get k)) .resetBusyTimeout
    ++ postEach (fun k => isOver s.now (s.relay.residual.get k)) .residualBusyTimeout
    ++ postEach s.busyTimeOver .busyTimerExpiry
    ++ postEach s.holdOver .holdLimitExpiry
    ++ postIf (!s.arb.queue.isEmpty && s.busFree && decide (s.arb.gapEnd ≤ s.now)) .insertStart
    ++ s.frameEvent
    ++ postIf (s.svc.processing.isSome && decide (s.svc.processingBy ≤ s.now)) .serviceProcessingEnd
    ++ postIf s.mayDoze .dozeEntry

/-- What happens where no command waits: a part that serves the drive port lets 1 µs pass and posts the events then due; a part in
reset or without supply idles (R130, R132, log 3). -/
def State.tick (s : State) : State :=
  match s.phase with
  | .running =>
    let s1 := s.runTo (s.now + 1)
    { s1 with pending := s1.pending ++ s1.dueEvents }
  | .inReset _ => s
  | .unpowered => s

end Sys2Proof.Machine
end

