-- ==== Sys2Proof/Safety.lean ====
section
/-! DEFINITION. What a safe run is, the invariants of the part's state that statements are made about, and the effects several
statements share, written out from the rules field by field and over none of the machine's own operations but where one is named. -/

namespace Sys2Proof.Machine

/-- A safe step: the part goes on, with neither a fault nor a refusal. -/
def Safe (s : State) : Prop := ∃ t, step s = .next t

/-- An open code presented now is taken for module k: exactly CE#k is asserted, and WAIT is not (R2, R19). -/
abbrev State.Selects (s : State) (k : ModuleId) : Prop := s.asserted = [k] ∧ s.wait = false

/-- A sequence of module k is open in its data phase, with no nested STATUS and nothing absorbed. -/
abbrev State.InSequence (s : State) (q : Seq) : Prop :=
  s.relay.absorb = false ∧ s.relay.nested = none ∧ s.relay.seq = some q

/-- The frame `bytes` waits for its command and passes the checks of R165 as the command `code`. -/
abbrev State.Carries (s : State) (bytes : List Byte) (code : CmdCode) : Prop :=
  s.svc.processing = some (.frame bytes none) ∧ checkFrame bytes = .ok code

/-- Every stored setting lies inside its range and the two pairs keep their order (R182, R184). -/
abbrev State.SettingsInRange (s : State) : Prop := s.ret.settings.wf = true

/-- At most one insert is queued for a module (R20). -/
abbrev State.OneInsertPerModule (s : State) : Prop := (s.arb.queue.map Insert.module).Nodup

/-- The window holds exactly WINDOW values and its sum is theirs (R53). A part that does not serve has no window. -/
abbrev State.WindowSummed (s : State) : Prop :=
  s.ret.settings.wf = true
    ∧ (s.phase = .running →
        (s.fe.window.length : Int) = s.ret.settings.window ∧ s.fe.sum = s.fe.window.sum)

/-- The suspect list holds at most 48 entries, no two with one key, and its overflow count stays in 0 to 255 (R142). -/
abbrev State.SuspectsKeyed (s : State) : Prop :=
  s.ret.suspects.length ≤ Config.suspectPlaces ∧ (s.ret.suspects.map Suspect.key).Nodup ∧ s.ret.overflow ≤ 255

/-- The shock log holds at most 32 records, their numbers rise strictly from 1 to at most the shock epoch, and the epoch and
the overwritten count stay in their ranges (R155 to R157). -/
abbrev State.ShocksOrdered (s : State) : Prop :=
  s.ret.shocks.length ≤ Config.shockPlaces ∧ (s.ret.shocks.map ShockRec.number).Pairwise (· < ·)
    ∧ (∀ r ∈ s.ret.shocks, 1 ≤ r.number ∧ r.number ≤ s.ret.epoch) ∧ s.ret.epoch ≤ Config.maxWord32
    ∧ s.ret.overwritten ≤ 65535

/-- Q lies between 0 and FULL (R110), in every phase that holds a Q: serving, or in a warm reset. A part waits in a reset only
while RESET# is asserted. -/
abbrev State.ChargeInside (s : State) : Prop :=
  (s.phase = .running ∨ s.phase = .inReset .warm → s.gauge.q ≤ s.ret.settings.full)
    ∧ (s.phase = .inReset .powerOn → s.resetPin = true)

/-- The thirteen page 7 counters stay in 0 to 65535 (R23, R40, R48, R104, R126). -/
abbrev State.CountersInRange (s : State) : Prop := ∀ i : CounterId, s.counters.get i ≤ 65535

/-- The voltage window holds exactly 16 values and its sum is theirs (R117). -/
abbrev State.VoltageSummed (s : State) : Prop :=
  s.gauge.vWindow.length = Config.voltagePlaces ∧ s.gauge.vSum = s.gauge.vWindow.sum

/-- Nothing of the part is open, queued or running, no cause is pending and ATTN# is released (R130, R132 step 1). -/
abbrev State.Abandoned (s : State) : Prop :=
  s.relay.seq = none ∧ s.relay.nested = none ∧ s.arb.queue = [] ∧ s.arb.running = none ∧ s.releaseQueue = []
    ∧ s.svc.frame = none ∧ s.svc.processing = none ∧ s.svc.snapshot = none ∧ s.tag.program = none ∧ s.tag.read = none
    ∧ s.fe.transfer = none ∧ s.gauge.currentRunning = false ∧ s.gauge.voltageRunning = false ∧ s.causes = 0
    ∧ s.attnLow = false

/-! ### Effects that several statements share -/

/-- One value for each module, given by a function. -/
abbrev perModule {α : Type} (f : ModuleId → α) : PerModule α := ⟨f .m0, f .m1, f .m2, f .m3⟩

/-- A 16-bit counter that grows `m` times, saturating at 65535 (R23, R104, R126). -/
abbrev grown (n m : Nat) : Nat := if m = 0 then n else min (n + m) 65535

/-- The insert queue after a request of one kind and cause for each module of a list in turn: the module's entry takes it in its
place, or a new entry joins the tail (R20). -/
def requested (q : List Insert) (ks : List ModuleId) (kind : InsertKind) (cause : Option ReleaseCause) : List Insert :=
  ks.foldl
    (fun q k =>
      let e : Insert := { module := k, kind := kind, cause := cause }
      if q.any fun x => decide (x.module = k) then q.map fun x => if x.module = k then e else x else q ++ [e]) q

/-- The part once an open code has ended its open sequence (R2). One cut short in its address phase is counted PROTOCOL (R3); a
passed-through program is abandoned (R34), and a passed-through read that is not settled is counted SKIPPED (R39); the frame
buffer or the snapshot of a service sequence goes with it (R175), while a processing goes on (log 38); its end is reported to doze
control (R188). -/
def State.ended (s : State) : State :=
  match s.relay.seq with
  | none => { s with relay := { s.relay with absorb := false, stray := false } }
  | some q =>
    let isPassed : SeqKind → Bool := fun kind => decide (q.handling = .passed) && decide (q.kind = kind)
    let isUnsettled : Bool := match s.tag.read with
      | some r => !r.settled
      | none => false
    { s with
      relay := { s.relay with absorb := false, stray := false, nested := none, seq := none }
      doze := { s.doze with idleFromMs := s.now / 1000 }
      counters :=
        { s.counters with
          protocol := if q.handling = .latching then min (s.counters.protocol + 1) 65535 else s.counters.protocol
          skipped :=
            if isPassed .read && isUnsettled then min (s.counters.skipped + 1) 65535 else s.counters.skipped }
      tag :=
        { program := if isPassed .program then none else s.tag.program
          read := if isPassed .read then none else s.tag.read }
      svc :=
        { s.svc with
          frame := if q.handling = .svcFrame then none else s.svc.frame
          snapshot := match q.handling with
            | .svcReport _ _ => none
            | _ => s.svc.snapshot } }

/-- The part once a code that the open sequence takes has ended the STATUS nested in it, if one waits: the stray mark is cleared (R3)
and its end is reported to doze control (R188; log 10). -/
def State.nestedEnded (s : State) : State :=
  match s.relay.nested with
  | none => s
  | some _ =>
    { s with
      relay := { s.relay with nested := none, stray := false }
      doze := { s.doze with idleFromMs := s.now / 1000 } }

/-- What the close code of program `p` sends for its tag, the write sequence its slot takes, and the counter after it: nothing for
an untagged one; for a stream that stopped in the data columns a COLUMN MOVE to 4096 with a tag built now and its 32 bytes, the
counter advanced to its next number, or to exhausted after the last; else the tag bytes not yet sent (R27, R32, R33). -/
def State.tagCompletion (s : State) (p : TagProgram) : List ModuleCycle × Option Nat × Nat :=
  let w := s.ret.writeSeq
  if p.tagged then
    match p.tag with
    | none =>
      (.code p.module 0x0A :: .addr p.module 0x00 :: .addr p.module 0x10
          :: (tagBytes s p p.dataCrc w).map fun b => .data p.module b,
        some w, if w = 0 ∨ 4294967295 ≤ w then 0 else w + 1)
    | some tag => ((tag.drop (p.pos - 4096)).map fun b => .data p.module b, p.writeSeq, w)
  else ([], none, w)

/-- The level where it differs from `old` is handed on: BATTERY is raised, and its entry into CRITICAL reaches the slots (R118,
R120). -/
def State.levelHanded (s : State) (old : Level) : State :=
  let new : Level := if s.gauge.voltageLow then .critical else if s.gauge.chargeLow then .reserve else .normal
  if new = old then s
  else if new = .critical then ({ s with causes := s.causes ||| 8 } : State).criticalEntry
  else { s with causes := s.causes ||| 8 }

/-- The settings `new` stored, with the effects of each that changed: WINDOW refills the window with its average (R55); HOLD_LIMIT
judges the holds (R186); CAPACITY clamps Q to the new FULL and writes the retained copy (R115); CAPACITY or RESERVE judges the
charge condition afresh, and CRIT_MV the voltage condition (R119, R122); the level is handed on once, after them (R120). -/
def State.settingsStored (s : State) (new : Settings) : State :=
  let old := s.ret.settings
  let average := s.fe.sum / s.fe.window.length
  let s1 : State :=
    { s with
      ret := { s.ret with settings := new }
      fe :=
        if old.window = new.window then s.fe
        else { s.fe with window := List.replicate new.window.toNat average, sum := average * new.window.toNat } }
  let s2 := if old.holdLimit = new.holdLimit then s1 else s1.judgeHolds
  let q := if old.capacity = new.capacity then s.gauge.q else min s.gauge.q (new.capacity.toNat * 3600000)
  let s3 : State :=
    { s2 with
      ret :=
        { s2.ret with
          chargeCopy :=
            if old.capacity = new.capacity then s.ret.chargeCopy
            else { q := q, underrun := s.gauge.underrun, unknown := s.gauge.unknown } }
      gauge :=
        { s.gauge with
          q := q
          chargeLow :=
            if old.capacity = new.capacity ∧ old.reserve = new.reserve then s.gauge.chargeLow
            else decide (q < new.reserve.toNat * 3600000)
          voltageLow :=
            if old.critMv = new.critMv then s.gauge.voltageLow else decide ((s.gauge.vSum / 16 : Nat) < new.critMv) } }
  s3.levelHanded s.gauge.level

/-- The monitor's open record, if it has one that the log still holds open, is changed by `f` (R158). -/
def State.openRecChanged (s : State) (f : ShockRec → ShockRec) : State :=
  { s with
    ret :=
      { s.ret with
        shocks := s.ret.shocks.map fun r => if s.mon.openRec = some r.number ∧ r.isOpen = true then f r else r } }

/-- The monitor's open record is closed as it stands (R71). -/
def State.openRecClosed (s : State) : State :=
  { s.openRecChanged fun r => { r with isOpen := false } with mon := { s.mon with openRec := none } }

/-- The monitor creates a record with its kind, its duration and, for one that opens with a strike, that strike's peak and
saturated flag, and holds it open (R69, R70, R72): numbered one above the epoch, in the place of the oldest where the log holds 32
(R156, R157), or refused where the epoch is exhausted (R159). -/
def State.recordOpened (s : State) (kind : ShockKind) (duration : Nat) (strike : Option (Peak × Bool)) : State :=
  let held := ModuleId.all.filter fun k => decide ((s.slotLive k).state = .held)
  let isFull := decide (32 ≤ s.ret.shocks.length)
  let n := if s.ret.epoch < 4294967295 then s.ret.epoch + 1 else 0
  let r : ShockRec :=
    { number := n, kind := kind, stamp := s.clock.stamp, duration := duration, peak := strike.map Prod.fst
      saturated := (strike.map Prod.snd).getD false, strikes := if strike.isSome then 1 else 0, charge := s.gauge.q * 1000 / (s.ret.settings.capacity.toNat * 3600000)
      exposed := 0, held := held.length, isOpen := true }
  let t : State := { s with mon := { s.mon with openRec := some n, heldCounted := held, exposedCounted := [] } }
  if s.ret.epoch < 4294967295 then
    { t with
      ret :=
        { s.ret with
          shocks := (if isFull then s.ret.shocks.tail else s.ret.shocks) ++ [r]
          epoch := n
          overwritten := if isFull then min (s.ret.overwritten + 1) 65535 else s.ret.overwritten }
      causes := s.causes ||| (if isFull then 129 else 1) }
  else
    { t with
      ret := { s.ret with overwritten := min (s.ret.overwritten + 1) 65535 }
      causes := s.causes ||| 128 }

/-- The monitor's state and its two counts. -/
def State.monitorAt (s : State) (m : MonState) (lowRun settle : Nat) : State :=
  { s with mon := { s.mon with state := m, lowRun := lowRun, settle := settle } }

end Sys2Proof.Machine
end

