-- ==== Sys2Proof/Certificates/Slice0/Obligations.lean ====
section
/-! DEFINITION. The statements for the provers. A next state is written out field by field with what the rules give it; a field
that a statement does not name keeps its value, so that each equation is its own frame. -/

section

open Sys2Proof Sys2Proof.Machine

/-! ### The queue and the step -/

/-- A step takes the command at the front of the queue and is its effect on the part with the rest of the queue (model's choice,
log 3). -/
def Obligations.StepRunsTheFrontCommand : Prop :=
  ∀ (c : Instr) (rest : List Instr) (s : State), s.pending = c :: rest → step s = exec c { s with pending := rest }

/-- With no command waiting, a part that serves the drive port lets 1 µs pass and queues the timed events then due; in reset or
without supply it idles (model's choice, log 3). Due are: a poll with the port IDLE, a sample, a copy and a second at their times
(R44, R106, R114, R192, R193); the end of a read, reset or residual busy period (R9, R13, R15); the busy time of an ISSUED slot and
the hold of a slot in WAITING beyond their limits (R89, R99; log 16); the start of the head insert (R21); the command of a frame
that passes its checks and the end of a processing (R18, R165; log 28); doze entry under its conditions (R189). -/
def Obligations.IdleStepIsOneTick : Prop :=
  (∀ s : State, s.pending = [] →
    (s.phase = .running →
      step s = .next { s with now := s.now + 1, pending := ({ s with now := s.now + 1 } : State).dueEvents })
    ∧ (s.phase ≠ .running → step s = .next s))
  ∧ ∀ s : State,
    let ms := s.now / 1000
    (.pollDue ∈ s.dueEvents ↔ s.fe.transfer = none ∧ s.fe.nextPoll ≤ s.now)
    ∧ (.currentSampleDue ∈ s.dueEvents ↔ s.gauge.nextCurrent ≤ s.now)
    ∧ (.voltageSampleDue ∈ s.dueEvents ↔ s.gauge.nextVoltage ≤ s.now)
    ∧ (.stampSecond ∈ s.dueEvents ↔ s.clock.nextSecond ≤ s.now)
    ∧ (.qCopyDue ∈ s.dueEvents ↔ s.gauge.nextCopy ≤ s.now)
    ∧ (.stampCopyDue ∈ s.dueEvents ↔ s.clock.nextCopy ≤ s.now)
    ∧ (∀ k, .readBusyTimeout k ∈ s.dueEvents ↔ ∃ t, s.relay.readBusy.get k = some t ∧ t ≤ s.now)
    ∧ (∀ k, .resetBusyTimeout k ∈ s.dueEvents ↔ ∃ t, s.relay.resetBusy.get k = some t ∧ t ≤ s.now)
    ∧ (∀ k, .residualBusyTimeout k ∈ s.dueEvents ↔ ∃ t, s.relay.residual.get k = some t ∧ t ≤ s.now)
    ∧ (∀ k, .busyTimerExpiry k ∈ s.dueEvents ↔
        (s.slotLive k).state = .issued ∧ ∃ start, (s.slotLive k).timerFrom = some start
          ∧ 1000 * (start + ((if (s.slotRec k).kind = some .erase then 50 else 10) + 1 - (s.slotLive k).timerValue)) ≤ s.now)
    ∧ (∀ k, .holdLimitExpiry k ∈ s.dueEvents ↔
        (s.slotLive k).state = .held ∧ (s.slotLive k).step = some .waiting
          ∧ s.ret.settings.holdLimit < ((ms - (s.slotRec k).holdStart.getD ms : Nat) : Int))
    ∧ (.insertStart ∈ s.dueEvents ↔
        s.arb.queue ≠ [] ∧ s.relay.seq = none ∧ s.wait = false ∧ ∀ g, s.arb.gapFrom = some g → g + 2 ≤ s.now)
    ∧ (∀ code, CmdCode.event code ∈ s.dueEvents ↔ ∃ bytes, s.Carries bytes code)
    ∧ (.serviceProcessingEnd ∈ s.dueEvents ↔ s.svc.processing ≠ none ∧ s.svc.processingBy ≤ s.now)
    ∧ (.dozeEntry ∈ s.dueEvents ↔
        s.doze.dozing = false ∧ s.relay.seq = none ∧ s.svc.processing = none ∧ s.mon.state = .calm
          ∧ (∀ k, (s.slotLive k).state = .free ∧ s.relay.readBusy.get k = none ∧ s.relay.resetBusy.get k = none
            ∧ s.relay.residual.get k = none)
          ∧ s.arb.queue = [] ∧ s.arb.running = none ∧ s.wait = false
          ∧ s.ret.settings.dozeDelay ≤ ((min (ms - s.doze.idleFromMs) 65535 : Nat) : Int))
    ∧ (∀ c ∈ s.dueEvents,
        c ∈ [Instr.pollDue, .currentSampleDue, .voltageSampleDue, .stampSecond, .qCopyDue, .stampCopyDue, .insertStart,
          .serviceProcessingEnd, .dozeEntry]
        ∨ (∃ k, c ∈ [Instr.readBusyTimeout k, .resetBusyTimeout k, .residualBusyTimeout k, .busyTimerExpiry k,
          .holdLimitExpiry k])
        ∨ ∃ code, c = CmdCode.event code)

/-- Every command has an effect in every state, with no fault and no refusal, and none touches the queue; only the CE# events move
CE# pins, only the RESET# events move RESET#, only power loss and the resets change the sampled straps, and the free values are
counted on only by the report pages that show them. The queue is the model's own field (log 32) and the CE# pins are state of the
part by the model's choice (log 5); that an event which cannot occur changes nothing but the ports, and that the free values are
counted, are the model's choices too (log 4, log 7). -/
def Obligations.CommandsAnswerNextAndKeepQueueAndPins : Prop :=
  ∀ (c : Instr) (s : State), ∃ t, exec c s = .next t
    ∧ t.pending = s.pending
    ∧ ((∀ k, c ≠ .ceAssert k ∧ c ≠ .ceDeassert k) → t.ce = s.ce)
    ∧ (c ≠ .resetAssert → (∀ i, c ≠ .resetRelease i) → t.resetPin = s.resetPin)
    ∧ (c ≠ .powerLoss → c ≠ .resetAssert → (∀ i, c ≠ .resetRelease i) → (∀ i, c ≠ .powerOn i) →
        t.straps = s.straps ∧ t.phase = s.phase)
    ∧ (c ∉ [.readClose, .reportPage4, .reportPage5, .reportPage6, .reportPage7] → t.freeIndex = s.freeIndex)

/-! ### Invariants every step keeps -/

/-- The settings table always holds values inside their ranges (R182, R184), which SetSettingStoresTheValue writes out (R181). -/
def Obligations.SettingsStayInRange : Prop :=
  ∀ s t : State, s.SettingsInRange → step s = .next t → t.SettingsInRange

/-- The insert queue never holds two entries for one module (R20). -/
def Obligations.OneInsertPerModuleStays : Prop :=
  ∀ s t : State, s.OneInsertPerModule → step s = .next t → t.OneInsertPerModule

/-- The window of the front end always holds WINDOW values whose sum it keeps (R53), and the voltage window of the gauge 16 values
whose sum it keeps (R117). -/
def Obligations.WindowSumStaysRight : Prop :=
  (∀ s t : State, s.WindowSummed → step s = .next t → t.WindowSummed)
  ∧ ∀ s t : State, s.VoltageSummed → step s = .next t → t.VoltageSummed

/-- The suspect list never holds more than 48 entries nor two with one key (R142). -/
def Obligations.SuspectListStaysKeyed : Prop :=
  ∀ s t : State, s.SuspectsKeyed → step s = .next t → t.SuspectsKeyed

/-- The shock log never holds more than 32 records, and their numbers rise to at most the epoch (R155 to R157). -/
def Obligations.ShockLogStaysOrdered : Prop :=
  ∀ s t : State, s.ShocksOrdered → step s = .next t → t.ShocksOrdered

/-- Q always lies between 0 and FULL (R110), and each of the thirteen counters of page 7 between 0 and 65535 (R23, R40, R48, R104,
R126). -/
def Obligations.ChargeStaysInside : Prop :=
  (∀ s t : State, s.ChargeInside → step s = .next t → t.ChargeInside)
  ∧ ∀ s t : State, s.CountersInRange → step s = .next t → t.CountersInRange

/-- The invariants hold of the part right after its first power-on ever. Its straps, its reset sample and its ready modules are
the model's choices (log 1). -/
def Obligations.ResetMeetsTheInvariants : Prop :=
  State.reset.SettingsInRange ∧ State.reset.OneInsertPerModule ∧ State.reset.WindowSummed ∧ State.reset.SuspectsKeyed
    ∧ State.reset.ShocksOrdered ∧ State.reset.ChargeInside ∧ State.reset.VoltageSummed ∧ State.reset.CountersInRange

/-! ### Opening and addressing sequences -/

/-- READ_OPEN, PROGRAM_OPEN, ERASE_OPEN, IDENTIFY: with one CE# asserted and WAIT released, the open sequence, if there is one, ends
as R2, R3, R34, R39 and R175 say (`State.ended`: one cut short in its address phase is counted PROTOCOL, a passed-through program is
abandoned, an unsettled read is counted SKIPPED, a frame buffer or snapshot goes, while a processing goes on by the model's choice,
log 38), and a sequence of the kind opens to that module in its address phase with nothing forwarded (R2, R3). That the CE# pins are
state of the part is the model's choice (log 5). -/
def Obligations.OpenCodeOpensASequence : Prop :=
  ∀ (s : State) (k : ModuleId), s.phase = .running → s.Selects k →
    ∀ p ∈ [(Instr.readOpen, SeqKind.read), (.programOpen, .program), (.eraseOpen, .erase), (.identify, .identify)],
      exec p.1 s = .next
        { s.ended with
          ports := ⟨[], none, []⟩
          relay :=
            { s.ended.relay with
              seq := some
                { kind := p.2, module := k, latched := [], handling := .latching, closeTaken := false, timedOut := false,
                  counted := false, answer := .fromModule } } }

/-- The eight open codes under WAIT with one CE# asserted, or with several asserted: ignored, counted PROTOCOL, and the cycles
after it absorbed; nothing else changes (R2, R19). With no CE# asserted one is ignored. Under the WAIT of a reset it is not counted
and the cycles after it are absorbed; without supply nothing is taken (R19, R130, R132). That the CE# pins are state of the part is
the model's choice (log 5); so is that the open sequence stays open under an ignored code, its address phase uncut, with its own
cycles absorbed (log 15, log 9), that a code ignored with no CE# asserted begins no new interval for stray cycles (log 9), and that a
reset keeps what absorption it saw begin (log 25). -/
def Obligations.OpenCodeUnderWaitIsIgnored : Prop :=
  ∀ (s : State),
    ∀ c ∈ [Instr.readOpen, .programOpen, .eraseOpen, .identify, .status, .moduleReset, .suspend, .resume],
      (s.phase = .running → ((∃ k, s.asserted = [k] ∧ s.wait = true) ∨ 2 ≤ s.asserted.length) →
        exec c s = .next
          { s with
            ports := ⟨[], none, []⟩
            relay := { s.relay with absorb := true }
            counters := { s.counters with protocol := min (s.counters.protocol + 1) 65535 } })
      ∧ (s.asserted = [] ∨ s.phase = .unpowered → exec c s = .next { s with ports := ⟨[], none, []⟩ })
      ∧ ((∃ kind, s.phase = .inReset kind) → s.asserted ≠ [] →
        exec c s = .next { s with ports := ⟨[], none, []⟩, relay := { s.relay with absorb := true } })

/-- ADDRESS_CYCLE. One before the last its sequence requires is latched and nothing is forwarded (R3). The last one: a column of 4128
or above discards the sequence unclassified, counted (R3; log 8). Else, in the order of R4: of an absent module, absorbed (R12); of
a module whose view shows busy, discarded and counted; of the service block, handed to the service handler, where page 0 takes a
program as a command frame, pages 1 to 7 answer a read with their report, any other read is blank and any other program or erase
refused (R17, R164); of a STUCK module, refused with READY-FAIL (R14); else passed through, its cycles forwarded in order with bits
23 to 18 of the row as 0 (R196), the tag engine engaged for a read or program at the latched column (R28, R35). A classified
sequence clears the override of a healthy module, and at module 0 the service answer (R11, R18). By the model's choices an address
cycle that no address phase takes changes nothing but the ports (log 12), and the CE# pins are not looked at (log 36). -/
def Obligations.AddressCyclesLatchAndClassify : Prop :=
  (∀ (s : State) (b : Byte), s.phase = .running →
    (s.relay.absorb = true ∨ s.relay.nested ≠ none ∨ s.relay.seq = none
      ∨ ∃ q, s.relay.seq = some q ∧ q.handling ≠ .latching) →
    exec (.addressCycle b) s = .next { s with ports := ⟨[], none, []⟩ })
  ∧ ∀ (s : State) (q : Seq) (b : Byte), s.phase = .running → s.InSequence q → q.handling = .latching →
    let k := q.module
    let whole : Seq := { q with latched := q.latched ++ [b] }
    let a := whole.addr
    let isBlock : Prop :=
      k = .m0 ∧ q.kind ≠ .identify ∧ a.block = BitVec.ofNat 11 (2047 - s.straps.svcSel.toNat)
    let taken : Handling → PerModule Bool → Bool → State := fun h readyFail serviceAnswer =>
      { s with
        ports := ⟨[], none, []⟩
        relay :=
          { s.relay with
            readyFail := readyFail, serviceAnswer := serviceAnswer, seq := some { whole with handling := h } } }
    let readyFail := if s.relay.stuck.get k then s.relay.readyFail else s.relay.readyFail.set k false
    let serviceAnswer := if k = .m0 then false else s.relay.serviceAnswer
    let classified : Handling → State := fun h => taken h readyFail serviceAnswer
    let refused : State := taken .refused (readyFail.set k true) serviceAnswer
    let protocol : Counters := { s.counters with protocol := min (s.counters.protocol + 1) 65535 }
    (q.latched.length + 1 < q.kind.addressCycles → exec (.addressCycle b) s = .next
      { s with ports := ⟨[], none, []⟩, relay := { s.relay with seq := some whole } })
    ∧ (∀ c0 c1 r0 r1 : Byte, q.latched = [c0, c1, r0, r1] → q.kind = .read ∨ q.kind = .program →
      let row := b.toNat * 65536 + r1.toNat * 256 + r0.toNat
      a = { column := c1.toNat * 256 + c0.toNat, block := BitVec.ofNat 11 (row / 128), page := BitVec.ofNat 7 row }
      ∧ (4128 ≤ c1.toNat * 256 + c0.toNat → exec (.addressCycle b) s = .next
        { taken .discarded s.relay.readyFail s.relay.serviceAnswer with counters := protocol }))
    ∧ (∀ r0 r1 : Byte, q.latched = [r0, r1] → q.kind = .erase →
      let row := b.toNat * 65536 + r1.toNat * 256 + r0.toNat
      a = { column := 0, block := BitVec.ofNat 11 (row / 128), page := BitVec.ofNat 7 row })
    ∧ (q.latched.length + 1 = q.kind.addressCycles → a.column < 4128 →
      (s.straps.modCnt.toNat < k.val →
        exec (.addressCycle b) s = .next (taken .absent s.relay.readyFail s.relay.serviceAnswer))
      ∧ (k.val ≤ s.straps.modCnt.toNat →
        (s.viewBusy k = true →
          exec (.addressCycle b) s = .next { classified .discarded with counters := protocol })
        ∧ (s.viewBusy k = false → isBlock →
          (q.kind = .program → a.page = 0 → exec (.addressCycle b) s = .next
            { classified .svcFrame with
              svc := { s.svc with frame := some { bytes := List.replicate 18 0xFF, pos := a.column } } })
          ∧ (q.kind = .program → a.page ≠ 0 → exec (.addressCycle b) s = .next refused)
          ∧ (q.kind = .erase → exec (.addressCycle b) s = .next refused)
          ∧ (q.kind = .read → a.page ∈ [1, 2, 3, 4, 5, 6, 7] →
            exec (.addressCycle b) s = .next (classified (.svcReport a.page a.column)))
          ∧ (q.kind = .read → a.page ∉ [1, 2, 3, 4, 5, 6, 7] →
            exec (.addressCycle b) s = .next (classified .svcBlank)))
        ∧ (s.viewBusy k = false → ¬isBlock →
          (s.relay.stuck.get k = true → exec (.addressCycle b) s = .next refused)
          ∧ (s.relay.stuck.get k = false →
            let t : Byte → Byte → State := fun code last =>
              { classified .passed with
                ports := ⟨.code k code :: (q.latched ++ [last]).map fun x => .addr k x, none, []⟩
                arb := { s.arb with gapFrom := none } }
            (q.kind = .identify → exec (.addressCycle b) s = .next (t 0x09 b))
            ∧ (q.kind = .erase → exec (.addressCycle b) s = .next (t 0x0E (b &&& 0x03)))
            ∧ (q.kind = .read → exec (.addressCycle b) s = .next
              { t 0x05 (b &&& 0x03) with
                tag :=
                  { s.tag with
                    read := some
                      { module := k, block := a.block, page := a.page, pos := a.column, crc := 0xFFFFFFFF,
                        inOrder := decide (a.column = 0), allFF := true, captured := [], settled := false } } })
            ∧ (q.kind = .program → exec (.addressCycle b) s = .next
              { t 0x0B (b &&& 0x03) with
                tag :=
                  { s.tag with
                    program := some
                      { module := k, block := a.block, page := a.page, pos := a.column, crc := 0xFFFFFFFF,
                        tagged := decide (a.column = 0 ∧ s.ret.writeSeq ≠ 0), tag := none, writeSeq := none } } })))))

/-! ### STATUS, MODULE RESET, SUSPEND and RESUME from the drive controller -/

/-- STATUS. Outside an open read or IDENTIFY of its module that is past its address phase, it ends the open sequence as any open
code does (`State.ended`: R2, R3, R34, R39) and opens a sequence that waits for its byte; inside one it is nested in it, which stays
open, and its byte out ends the STATUS alone (R2, R36). The code and the strobe are forwarded only where the module is to answer;
else the byte is the part's own (R8). That a STATUS in the address phase of a read or IDENTIFY of its own module cuts it and is not
nested, and that one that waits for its byte ends there for the next, are the model's reading (log 10); that the CE# pins are state
of the part, and not looked at by a strobe, are its choices (log 5, log 36). -/
def Obligations.StatusOpensWithItsAnswer : Prop :=
  (∀ (s : State) (k : ModuleId), s.phase = .running → s.Selects k →
    let a := s.statusAnswer k
    let ports : Ports := ⟨if a = .fromModule then [.code k 0x0C] else [], none, []⟩
    let arb : Arbiter := if a = .fromModule then { s.arb with gapFrom := none } else s.arb
    ((∀ q, s.relay.seq = some q → (q.kind ≠ .read ∧ q.kind ≠ .identify) ∨ q.module ≠ k ∨ q.handling = .latching) →
      exec .status s = .next
        { s.ended with
          ports := ports
          arb := arb
          relay :=
            { s.ended.relay with
              seq := some
                { kind := .status, module := k, latched := [], handling := .passed, closeTaken := false, timedOut := false,
                  counted := false, answer := a } } })
    ∧ (∀ q, s.relay.seq = some q → q.kind = .read ∨ q.kind = .identify → q.module = k → q.handling ≠ .latching →
      exec .status s = .next
        { s.nestedEnded with
          ports := ports
          arb := arb
          relay := { s.relay with absorb := false, stray := false, nested := some a } }))
  ∧ ∀ (s : State) (q : Seq) (a : StatusAnswer) (b : Byte), s.phase = .running → s.relay.absorb = false →
    s.relay.nested = some a → s.relay.seq = some q →
    let t : State :=
      { s with
        relay := { s.relay with nested := none, stray := false }
        doze := { s.doze with idleFromMs := s.now / 1000 } }
    (∀ own, a = .byPart own → exec (.dataOutStrobe b) s = .next { t with ports := ⟨[], some own, []⟩ })
    ∧ (a = .fromModule → exec (.dataOutStrobe b) s = .next
      { t with ports := ⟨[.strobe q.module], some b, []⟩, arb := { s.arb with gapFrom := none } })

/-- What a STATUS is answered, in the order of the cases of R8, and for an absent module by R12: READY is bit 7 and FAIL bit 0. The RB
line of a module shows busy exactly where it is present and its slot is live, a STATUS_CHECK for it is queued or runs, a read, reset or
residual busy period runs, or, for module 0, a service sequence is processed (R10, R12). WAIT is asserted exactly in a reset and, on a
part that serves, while an insert runs or a wake from DOZE holds it (R19). That a confirm being decided shows in neither, and that a
part without supply drives no WAIT, are the model's choices (log 23, log 25). -/
def Obligations.StatusAnswerFollowsTheView : Prop :=
  (∀ (s : State) (k : ModuleId),
    (s.checkPending k = true ↔
      (∃ e ∈ s.arb.queue, e.module = k ∧ e.kind = .statusCheck)
        ∨ ∃ e, s.arb.running = some e ∧ e.module = k ∧ e.kind = .statusCheck)
    ∧ (s.viewBusy k = true ↔
      (s.slotLive k).state ∈ [.held, .issued, .suspended]
        ∨ (∃ e ∈ s.arb.queue, e.module = k ∧ e.kind = .statusCheck)
        ∨ (∃ e, s.arb.running = some e ∧ e.module = k ∧ e.kind = .statusCheck)
        ∨ s.relay.readBusy.get k ≠ none ∨ s.relay.resetBusy.get k ≠ none ∨ s.relay.residual.get k ≠ none
        ∨ k = .m0 ∧ s.svc.processing ≠ none)
    ∧ (s.rbShowsBusy k = true ↔ k.val ≤ s.straps.modCnt.toNat ∧ s.viewBusy k = true)
    ∧ (s.wait = true ↔
      (∃ kind, s.phase = .inReset kind)
        ∨ s.phase = .running ∧ (s.arb.running ≠ none ∨ s.arb.wakeWait = true)))
  ∧ ∀ (s : State) (k : ModuleId),
    (s.straps.modCnt.toNat < k.val → s.statusAnswer k = .byPart 0x81)
    ∧ (k.val ≤ s.straps.modCnt.toNat →
      ((s.slotLive k).state ≠ .free ∨ s.checkPending k = true → s.statusAnswer k = .byPart 0x00)
      ∧ ((s.slotLive k).state = .free → s.checkPending k = false →
        (s.relay.readyFail.get k = true → s.statusAnswer k = .byPart 0x81)
        ∧ (s.relay.readyFail.get k = false →
          (k = .m0 → s.svc.processing ≠ none → s.statusAnswer k = .byPart 0x00)
          ∧ (k = .m0 → s.svc.processing = none → s.relay.serviceAnswer = true → s.statusAnswer k = .byPart 0x80)
          ∧ (k = .m0 → s.svc.processing = none → s.relay.serviceAnswer = false → s.statusAnswer k = .fromModule)
          ∧ (k ≠ .m0 → s.statusAnswer k = .fromModule))))

/-- MODULE_RESET, which ends the open sequence as any open code does (`State.ended`). To a present module: its queued insert is
withdrawn, its read and residual busy periods end, the code is forwarded, a reset busy period of 5 ms starts, and a module that is
not STUCK loses its answer override; a FREE slot is unchanged, a HELD one closes WITHDRAWN with no entry handed, an ISSUED or
SUSPENDED one closes ABORTED and hands its entry, which a full list drops with LIST_FULL raised. To an absent module it is absorbed
(R2, R11, R12, R15, R100 to R102, R144, R188). That the suspend flag of a closed slot stays as it was is the model's choice
(log 26). -/
def Obligations.ModuleResetStartsItsBusyPeriod : Prop :=
  ∀ (s : State) (k : ModuleId), s.phase = .running → s.Selects k →
    (k.val ≤ s.straps.modCnt.toNat →
      let t : State :=
        { s.ended with
          ports := ⟨[.code k 0x0F], none, []⟩
          arb := { s.arb with queue := s.arb.queue.filter fun e => decide (e.module ≠ k), gapFrom := none }
          relay :=
            { s.ended.relay with
              readyFail := if s.relay.stuck.get k then s.relay.readyFail else s.relay.readyFail.set k false
              serviceAnswer := if k = .m0 then false else s.relay.serviceAnswer
              readBusy := s.relay.readBusy.set k none
              residual := s.relay.residual.set k none
              resetBusy := s.relay.resetBusy.set k (some (s.now + 5000)) }
          doze := { s.doze with idleFromMs := s.now / 1000 } }
      let closed : SlotOutcome → State := fun o =>
        { t with
          ret :=
            { s.ret with
              slots := s.ret.slots.set k
                { s.slotRec k with state := .free, last := some o, busyMs := (s.slotLive k).busyMs (s.now / 1000) } }
          slots := s.slots.set k
            { s.slotLive k with state := .free, step := none, issueMs := none, timerFrom := none, keptReturn := false }
          releaseQueue := s.releaseQueue.filter fun m => decide (m ≠ k) }
      let list := addSuspect s.ret.suspects s.ret.overflow ((s.slotRec k).entry k .aborted s.clock.stamp)
      ((s.slotLive k).state = .free → exec .moduleReset s = .next t)
      ∧ ((s.slotLive k).state = .held → exec .moduleReset s = .next (closed .withdrawn))
      ∧ ((s.slotLive k).state = .issued ∨ (s.slotLive k).state = .suspended → exec .moduleReset s = .next
        { closed .aborted with
          ret := { (closed .aborted).ret with suspects := list.1, overflow := list.2.1 }
          causes := if list.2.2 then s.causes ||| 128 else s.causes }))
    ∧ (s.straps.modCnt.toNat < k.val → exec .moduleReset s = .next
      { s.ended with ports := ⟨[], none, []⟩, doze := { s.doze with idleFromMs := s.now / 1000 } })

/-- SUSPEND and RESUME from the drive controller end the open sequence as any open code does (`State.ended`), are discarded and
counted PROTOCOL, and end with their code; nothing reaches the module (R2, R4, R12, R188). -/
def Obligations.SuspendAndResumeAreDiscarded : Prop :=
  ∀ (s : State) (k : ModuleId), s.phase = .running → s.Selects k →
    ∀ c ∈ [Instr.suspend, .resume],
      exec c s = .next
        { s.ended with
          ports := ⟨[], none, []⟩
          relay :=
            { s.ended.relay with
              readyFail :=
                if k.val ≤ s.straps.modCnt.toNat ∧ s.relay.stuck.get k = false then s.relay.readyFail.set k false
                else s.relay.readyFail
              serviceAnswer := if k = .m0 then false else s.relay.serviceAnswer }
          counters := { s.ended.counters with protocol := min (s.ended.counters.protocol + 1) 65535 }
          doze := { s.doze with idleFromMs := s.now / 1000 } }

/-- CE_ASSERT in ACTIVE sets the idle time to 0; in DOZE it wakes the part: ACTIVE periods from now, the window refilled with its
average, and WAIT held (R45, R56, R107, R188, R190). That it does so for a CE# already asserted too is the model's choice (log 4). -/
def Obligations.ChipEnableWakesThePart : Prop :=
  ∀ (s : State) (k : ModuleId), s.phase = .running →
    (s.doze.dozing = false → exec (.ceAssert k) s = .next
      { s with
        ports := ⟨[], none, []⟩
        ce := s.ce.set k true
        doze := { s.doze with idleFromMs := s.now / 1000 } })
    ∧ (s.doze.dozing = true → exec (.ceAssert k) s = .next
      { s with
        ports := ⟨[], none, []⟩
        ce := s.ce.set k true
        doze := { dozing := false, idleFromMs := s.now / 1000 }
        arb := { s.arb with wakeWait := true }
        fe :=
          { s.fe with
            pollPeriod := 625
            nextPoll := s.now + 625
            window := List.replicate s.fe.window.length (s.fe.sum / s.fe.window.length)
            sum := s.fe.sum / s.fe.window.length * s.fe.window.length }
        gauge := { s.gauge with currentPeriod := 10000, nextCurrent := s.now + 10000 } })

/-- CE_DEASSERT with no read or IDENTIFY of the module open only moves the pin. It ends an open read or IDENTIFY of the module,
whatever its handling: a passed-through read's unsettled check is counted SKIPPED, a report page's snapshot is discarded
(its processing goes on by the model's choice, log 38), and one in its address phase, discarded, refused, absent or of a service
page without a report leaves nothing behind; the end is reported to doze control (R2, R4, R12, R17, R19, R39, R40, R175, R188). That
it does so for a CE# not asserted too is the model's choice (log 4). -/
def Obligations.ChipDisableEndsTheSequence : Prop :=
  ∀ (s : State) (k : ModuleId), s.phase = .running →
    ((∀ q, s.relay.seq = some q → q.module ≠ k ∨ (q.kind ≠ .read ∧ q.kind ≠ .identify)) →
      exec (.ceDeassert k) s = .next { s with ports := ⟨[], none, []⟩, ce := s.ce.set k false })
    ∧ (∀ q, s.relay.seq = some q → q.module = k → q.kind = .read ∨ q.kind = .identify →
      let t : State :=
        { s with
          ports := ⟨[], none, []⟩
          ce := s.ce.set k false
          relay := { s.relay with seq := none, nested := none, stray := false }
          doze := { s.doze with idleFromMs := s.now / 1000 } }
      (q.kind = .identify → q.handling = .passed → exec (.ceDeassert k) s = .next t)
      ∧ (∀ r, q.kind = .read → q.handling = .passed → s.tag.read = some r → exec (.ceDeassert k) s = .next
        { t with
          tag := { s.tag with read := none }
          counters :=
            if r.settled then s.counters else { s.counters with skipped := min (s.counters.skipped + 1) 65535 } })
      ∧ (q.handling ∈ [.latching, .discarded, .refused, .absent, .svcBlank] → exec (.ceDeassert k) s = .next t)
      ∧ (∀ p column, q.handling = .svcReport p column → exec (.ceDeassert k) s = .next
        { t with svc := { s.svc with snapshot := none } }))

/-! ### Data cycles, COLUMN MOVE and the tag engine -/

/-- COLUMN_MOVE inside a program or read past its address phase; a STATUS nested in it ends (`State.nestedEnded`; log 10). A
passed-through program: below column 4128 it is forwarded with its two cycles and the program becomes untagged at the new position;
a command frame takes the position; at 4128 or above either discards and counts it (R3, R6, R31, R164). A passed-through read:
outside its busy period it is forwarded below 4128, else discarded and counted; inside, it is ignored and the first counted; but for
a discarded one the check, if unsettled, loses the order (R3, R5, R37; log 14). A report page goes on at the column, and no column
above 4127 is taken (R175). A discarded, refused or absent sequence absorbs it (R4, R12). That the code and its column cycles are
one command, and that the CE# pins are not looked at, are the model's choices (log 6, log 36). -/
def Obligations.ColumnMoveUntagsTheProgram : Prop :=
  ∀ (s : State) (q : Seq) (col : BitVec 16), s.phase = .running → s.relay.absorb = false → s.relay.seq = some q →
    let t : State := { s.nestedEnded with ports := ⟨[], none, []⟩ }
    let protocol : Counters := { s.counters with protocol := min (s.counters.protocol + 1) 65535 }
    let discarded : State := { t with counters := protocol }
    let forwarded : State :=
      { t with
        ports := ⟨[.code q.module 0x0A, .addr q.module (BitVec.ofNat 8 col.toNat),
          .addr q.module (BitVec.ofNat 8 (col.toNat / 256))], none, []⟩
        arb := { s.arb with gapFrom := none } }
    (q.kind = .program →
      (∀ p, q.handling = .passed → s.tag.program = some p → col.toNat < 4128 → exec (.columnMove col) s = .next
        { forwarded with
          tag :=
            { s.tag with
              program := some
                { p with pos := col.toNat, tagged := false, crc := 0xFFFFFFFF, tag := none, writeSeq := none } } })
      ∧ (∀ f, q.handling = .svcFrame → s.svc.frame = some f → col.toNat < 4128 → exec (.columnMove col) s = .next
        { t with svc := { s.svc with frame := some { f with pos := col.toNat } } })
      ∧ (q.handling = .passed ∨ q.handling = .svcFrame → 4128 ≤ col.toNat → exec (.columnMove col) s = .next discarded))
    ∧ (q.kind = .read →
      (∀ r, q.handling = .passed → s.tag.read = some r →
        let lost : TagEngine :=
          { s.tag with
            read := some (if r.settled then r else { r with inOrder := false, crc := 0xFFFFFFFF, captured := [] }) }
        (q.closeTaken = true → s.relay.readBusy.get q.module ≠ none → exec (.columnMove col) s = .next
          { t with
            tag := lost
            relay := { t.relay with seq := some { q with counted := true } }
            counters := if q.counted then s.counters else protocol })
        ∧ (q.closeTaken = false ∨ s.relay.readBusy.get q.module = none →
          (col.toNat < 4128 → exec (.columnMove col) s = .next { forwarded with tag := lost })
          ∧ (4128 ≤ col.toNat → exec (.columnMove col) s = .next discarded)))
      ∧ (∀ p column, q.handling = .svcReport p column →
        (col.toNat < 4128 → exec (.columnMove col) s = .next
          { t with relay := { t.relay with seq := some { q with handling := .svcReport p col.toNat } } })
        ∧ (4128 ≤ col.toNat → exec (.columnMove col) s = .next discarded))
      ∧ (q.handling = .svcBlank →
        (col.toNat < 4128 → exec (.columnMove col) s = .next t)
        ∧ (4128 ≤ col.toNat → exec (.columnMove col) s = .next discarded)))
    ∧ (q.kind = .program ∨ q.kind = .read → q.handling ∈ [.discarded, .refused, .absent] →
      exec (.columnMove col) s = .next t)

/-- DATA_IN_CYCLE. In a passed-through program, a data byte of a tagged one before column 4095 feeds the CRC-32 and is forwarded
unchanged, one of an untagged one below column 4128 is forwarded unchanged, and either advances the position; in a command frame a
byte is stored at places 0 to 17 and dropped at 18 to 4127; beyond column 4127 either absorbs it and counts the first (R6, R17, R29,
R164). In an address phase it cuts the sequence short, discarded and counted once (R3; log 13). A discarded, refused or absent
sequence absorbs it, as do the cycles after an ignored open code (R2, R4, R12). Anywhere else it is a stray cycle, the first
counted: in a read, IDENTIFY or STATUS, in an erase, and with no sequence open (R3); and, by the model's reading, inside a nested
STATUS, also one in a discarded read (log 10). That the CE# pins are not looked at is the model's choice (log 36). -/
def Obligations.DataByteIsForwardedOrCaptured : Prop :=
  ∀ (s : State) (b : Byte), s.phase = .running →
    let t : State := { s with ports := ⟨[], none, []⟩ }
    let protocol : Counters := { s.counters with protocol := min (s.counters.protocol + 1) 65535 }
    let stray : State :=
      { t with
        relay := { s.relay with stray := true }
        counters := if s.relay.stray then s.counters else protocol }
    (s.relay.absorb = true → exec (.dataInCycle b) s = .next t)
    ∧ (s.relay.absorb = false → s.relay.seq = none ∨ s.relay.nested ≠ none → exec (.dataInCycle b) s = .next stray)
    ∧ (∀ q, s.InSequence q →
      let beyond : State :=
        { t with
          relay := { s.relay with seq := some { q with counted := true } }
          counters := if q.counted then s.counters else protocol }
      (∀ p, q.kind = .program → q.handling = .passed → s.tag.program = some p →
        (p.tagged = true → p.pos < 4095 → exec (.dataInCycle b) s = .next
          { s with
            ports := ⟨[.data p.module b], none, []⟩
            arb := { s.arb with gapFrom := none }
            tag := { s.tag with program := some { p with pos := p.pos + 1, crc := crc32Byte p.crc b } } })
        ∧ (p.tagged = false → p.pos < 4128 → exec (.dataInCycle b) s = .next
          { s with
            ports := ⟨[.data p.module b], none, []⟩
            arb := { s.arb with gapFrom := none }
            tag := { s.tag with program := some { p with pos := p.pos + 1 } } })
        ∧ (4128 ≤ p.pos → exec (.dataInCycle b) s = .next beyond))
      ∧ (∀ f, q.handling = .svcFrame → s.svc.frame = some f →
        (f.pos < 4128 → exec (.dataInCycle b) s = .next
          { t with
            svc :=
              { s.svc with
                frame := some { bytes := if f.pos < 18 then f.bytes.set f.pos b else f.bytes, pos := f.pos + 1 } } })
        ∧ (4128 ≤ f.pos → exec (.dataInCycle b) s = .next beyond))
      ∧ (q.handling = .latching → exec (.dataInCycle b) s = .next
        { t with relay := { s.relay with seq := some { q with handling := .discarded } }, counters := protocol })
      ∧ (q.handling ∈ [.discarded, .refused, .absent] → exec (.dataInCycle b) s = .next t)
      ∧ (q.handling = .passed ∧ q.kind ≠ .program ∨ q.handling = .svcBlank
          ∨ (∃ p column, q.handling = .svcReport p column) → exec (.dataInCycle b) s = .next stray))

/-- The check codes are those of R24 and R25, shift by shift, and the data CRC-32 counts the columns from the position through 4095
as 0xFF (R32). DATA_IN_CYCLE of column 4095 of a tagged program: the byte is forwarded, the tag is built over all 4096 data columns
with the write sequence counter's number, and the counter is advanced by 1 in retained memory, to exhausted after the last number
(R27, R29). DATA_IN_CYCLE in a tag column of a tagged program whose tag is built: the tag byte of the column is forwarded in place
of the drive controller's, no check code changes, and the position grows by 1 (R30). The tag's 32 bytes are the marker, the data
CRC, the write sequence, the low 16 bits of the epoch, the charge in permille, the state byte (the level, and 4 times the monitor
state), the stamp, the address echo, seven bytes 0xFF and the CRC-16 of the 30 before it (R26, R116, R197). That the CE# pins are
not looked at is the model's choice (log 36). -/
def Obligations.TagIsBuiltAtColumn4096 : Prop :=
  (let shift32 : Nat → Nat := fun r => if r % 2 = 1 then (r / 2) ^^^ 0xEDB88320 else r / 2
    let shift16 : Nat → Nat := fun r => if 32768 ≤ r then (r * 2 % 65536) ^^^ 0x1021 else r * 2
    (∀ (r : BitVec 32) (b : Byte), (crc32Byte r b).toNat = Nat.iterate shift32 8 (r.toNat ^^^ b.toNat))
    ∧ (∀ bs : List Byte,
      (crc16 bs).toNat = bs.foldl (fun r b => Nat.iterate shift16 8 (r ^^^ (b.toNat * 256))) 0xFFFF)
    ∧ ∀ p : TagProgram, p.dataCrc = ~~~((List.replicate (4096 - p.pos) (0xFF : Byte)).foldl crc32Byte p.crc))
  ∧ (∀ (s : State) (q : Seq) (p : TagProgram) (b : Byte), s.phase = .running → s.InSequence q → q.kind = .program →
    q.handling = .passed → s.tag.program = some p → p.tagged = true →
    (p.pos = 4095 →
      let w := s.ret.writeSeq
      exec (.dataInCycle b) s = .next
        { s with
          ports := ⟨[.data p.module b], none, []⟩
          arb := { s.arb with gapFrom := none }
          ret := { s.ret with writeSeq := if w = 0 ∨ 4294967295 ≤ w then 0 else w + 1 }
          tag :=
            { s.tag with
              program := some
                { p with
                  pos := 4096
                  crc := crc32Byte p.crc b
                  tag := some (tagBytes s p (~~~(crc32Byte p.crc b)) w)
                  writeSeq := some w } } })
    ∧ (∀ tag, p.tag = some tag → 4096 ≤ p.pos → p.pos < 4128 →
      exec (.dataInCycle b) s = .next
        { s with
          ports := ⟨[.data p.module (tag.getD (p.pos - 4096) 0xFF)], none, []⟩
          arb := { s.arb with gapFrom := none }
          tag := { s.tag with program := some { p with pos := p.pos + 1 } } }))
  ∧ ∀ (s : State) (p : TagProgram) (crc : BitVec 32) (w : Nat),
    let tag := tagBytes s p crc w
    let read : Nat → Nat → Nat := fun i n => ofBe ((tag.drop i).take n)
    let level := match s.gauge.level with
      | .normal => 0
      | .reserve => 1
      | .critical => 2
    let monitor := match s.mon.state with
      | .calm => 0
      | .falling => 1
      | .struck => 2
      | .settling => 3
      | .blind => 4
    tag.length = 32 ∧ read 0 2 = 0xA73C ∧ read 2 4 = crc.toNat ∧ read 6 4 = min w 4294967295
    ∧ read 10 2 = s.ret.epoch % 65536
    ∧ read 12 2 = min (s.gauge.q * 1000 / (s.ret.settings.capacity.toNat * 3600000)) 65535
    ∧ read 14 1 = level + 4 * monitor ∧ read 15 4 = min s.clock.stamp 4294967295
    ∧ read 19 4 = p.page.toNat + 128 * p.block.toNat + 262144 * p.module.val ∧ read 23 7 = 0xFFFFFFFFFFFFFF
    ∧ read 30 2 = (crc16 (tag.take 30)).toNat

/-- A tag the part builds reads back as a MATCH: a full in-order read, not all 0xFF, of the module, block and page it was built
for, whose data columns give the CRC-32 the tag was built with and whose tag columns hold the tag, settles MATCH with the tag's
write sequence (R26, R38, R41, R197). -/
def Obligations.BuiltTagReadsBackAsMatch : Prop :=
  ∀ (s : State) (p : TagProgram) (r : TagRead) (w : Nat), w < 4294967296 → r.module = p.module → r.block = p.block →
    r.page = p.page → ~~~r.crc = p.dataCrc → r.allFF = false → r.captured = tagBytes s p p.dataCrc w →
    r.outcome = .matched ∧ r.reportSeq r.outcome = some w

/-- DATA_OUT_STROBE. With no sequence open it is a stray cycle, the first counted (R3), and while cycles are absorbed nothing (R2, R19).
A STATUS nested in the sequence, whatever its handling, takes it (R2, R8). In an address phase it cuts the sequence short, discarded
and counted (R3), once, as the cut (log 13), with no byte driven (log 29). Of a
passed-through read: before its close code it is a stray cycle, the first counted (R3); in the busy period it is answered 0xFF, loses
the order and is counted once (R5, R37); after a timeout it is answered 0xFF (R13); past the busy period it is forwarded and the
module's byte passes unchanged, examined at its column only in order and unsettled (R36, R37). Of an IDENTIFY it is forwarded. A
read or IDENTIFY discarded, refused or absent, and a blank service read past its close code, is answered 0xFF (R4, R12, R17). A
report page answers from its snapshot, and while it is processed 0xFF, counted once (R18, R175). The byte out of a STATUS is the
part's own or the module's, and ends it (R8). A program or erase gives no byte: a stray cycle, or absorbed (R3, R4). That a strobe
the part ignores drives no byte, and that the CE# pins are not looked at, are the model's choices (log 29, log 36). -/
def Obligations.StrobeIsAnswered : Prop :=
  (∀ (s : State) (b : Byte), s.phase = .running →
    let t : State := { s with ports := ⟨[], none, []⟩ }
    (s.relay.absorb = true → exec (.dataOutStrobe b) s = .next t)
    ∧ (s.relay.absorb = false → s.relay.seq = none →
      (s.relay.stray = true → exec (.dataOutStrobe b) s = .next t)
      ∧ (s.relay.stray = false → exec (.dataOutStrobe b) s = .next
        { t with
          relay := { s.relay with stray := true }
          counters := { s.counters with protocol := min (s.counters.protocol + 1) 65535 } }))
    ∧ (∀ q a, s.relay.absorb = false → s.relay.seq = some q → s.relay.nested = some a →
      (∀ own, a = .byPart own → exec (.dataOutStrobe b) s = .next { s.nestedEnded with ports := ⟨[], some own, []⟩ })
      ∧ (a = .fromModule → exec (.dataOutStrobe b) s = .next
        { s.nestedEnded with ports := ⟨[.strobe q.module], some b, []⟩, arb := { s.arb with gapFrom := none } })))
  ∧ ∀ (s : State) (q : Seq) (b : Byte), s.phase = .running → s.InSequence q →
    let protocol : Counters := { s.counters with protocol := min (s.counters.protocol + 1) 65535 }
    let answered : Option Byte → State := fun byte => { s with ports := ⟨[], byte, []⟩ }
    let forwarded : State :=
      { s with ports := ⟨[.strobe q.module], some b, []⟩, arb := { s.arb with gapFrom := none } }
    let stray : State :=
      if s.relay.stray then answered none
      else { answered none with relay := { s.relay with stray := true }, counters := protocol }
    let once : State :=
      if q.counted then answered (some 0xFF)
      else
        { answered (some 0xFF) with
          relay := { s.relay with seq := some { q with counted := true } }, counters := protocol }
    (q.handling = .latching → exec (.dataOutStrobe b) s = .next
      { answered none with
        relay := { s.relay with seq := some { q with handling := .discarded } }, counters := protocol })
    ∧ (∀ r, q.kind = .read → q.handling = .passed → s.tag.read = some r →
      (q.closeTaken = false → exec (.dataOutStrobe b) s = .next stray)
      ∧ (q.closeTaken = true → q.timedOut = true → exec (.dataOutStrobe b) s = .next (answered (some 0xFF)))
      ∧ (q.closeTaken = true → q.timedOut = false → s.relay.readBusy.get q.module ≠ none →
        exec (.dataOutStrobe b) s = .next
          { once with
            tag :=
              { s.tag with
                read := some
                  (if r.settled then r else { r with inOrder := false, crc := 0xFFFFFFFF, captured := [] }) } })
      ∧ (q.closeTaken = true → q.timedOut = false → s.relay.readBusy.get q.module = none →
        (r.inOrder = true → r.settled = false → r.pos < 4127 → exec (.dataOutStrobe b) s = .next
          { forwarded with
            tag :=
              { s.tag with
                read := some
                  { r with
                    pos := r.pos + 1
                    crc := if r.pos < 4096 then crc32Byte r.crc b else r.crc
                    captured := if r.pos < 4096 then r.captured else r.captured ++ [b]
                    allFF := r.allFF && decide (b = 0xFF) } } })
        ∧ (r.inOrder = false ∨ r.settled = true → exec (.dataOutStrobe b) s = .next forwarded)))
    ∧ (q.kind = .identify → q.handling = .passed → exec (.dataOutStrobe b) s = .next forwarded)
    ∧ (q.kind = .read ∨ q.kind = .identify → q.handling = .discarded ∨ q.handling = .refused ∨ q.handling = .absent →
      exec (.dataOutStrobe b) s = .next (answered (some 0xFF)))
    ∧ (q.handling = .svcBlank →
      (q.closeTaken = false → exec (.dataOutStrobe b) s = .next stray)
      ∧ (q.closeTaken = true → exec (.dataOutStrobe b) s = .next (answered (some 0xFF))))
    ∧ (∀ p column, q.handling = .svcReport p column →
      (q.closeTaken = false → exec (.dataOutStrobe b) s = .next stray)
      ∧ (q.closeTaken = true → s.svc.processing ≠ none → exec (.dataOutStrobe b) s = .next once)
      ∧ (∀ n, q.closeTaken = true → s.svc.processing = none → s.svc.snapshot = some n →
        exec (.dataOutStrobe b) s = .next
          { answered (some (if column < 4128 then n.content.getD column 0xFF else 0xFF)) with
            relay := { s.relay with seq := some { q with handling := .svcReport p (column + 1) } } }))
    ∧ (q.kind = .status → q.handling = .passed →
      let t : State :=
        { s with
          relay := { s.relay with seq := none, nested := none, stray := false }
          doze := { s.doze with idleFromMs := s.now / 1000 } }
      (∀ own, q.answer = .byPart own → exec (.dataOutStrobe b) s = .next { t with ports := ⟨[], some own, []⟩ })
      ∧ (q.answer = .fromModule → exec (.dataOutStrobe b) s = .next
        { t with ports := ⟨[.strobe q.module], some b, []⟩, arb := { s.arb with gapFrom := none } }))
    ∧ (q.kind = .program ∨ q.kind = .erase →
      (q.handling = .passed ∨ q.handling = .svcFrame → exec (.dataOutStrobe b) s = .next stray)
      ∧ (q.handling = .discarded ∨ q.handling = .refused ∨ q.handling = .absent →
        exec (.dataOutStrobe b) s = .next (answered none)))

/-- The strobe of column 4127 of a read in order settles the read check at once: its byte still passes to the drive port, its
outcome alone is counted, and the suspect list reads its report. All 0xFF is EMPTY; a marker or tag check that fails is UNTAGGED;
an echo of another page is MISPLACED; a data CRC that fails is MISMATCH; else it is a MATCH (R38, R40, R41). A MATCH takes out an
entry of its page but one that is LOST, MISMATCH or MISPLACED (R146); MISMATCH and MISPLACED make an entry of their page DAMAGED,
more severe reason and fields winning, or a new DAMAGED entry where it has none, dropped by a full list (R144, R145, R147, R149);
EMPTY and UNTAGGED make an entry DAMAGED, but a LOST one that reads EMPTY stays as it is (R148). An entry that turns DAMAGED, or a
new one, raises INTEGRITY (R150). That the CE# pins are not looked at is the model's choice (log 36). -/
def Obligations.LastColumnSettlesTheRead : Prop :=
  ∀ (s : State) (q : Seq) (r : TagRead) (b : Byte), s.phase = .running → s.InSequence q → q.kind = .read →
    q.handling = .passed → q.closeTaken = true → q.timedOut = false → s.relay.readBusy.get q.module = none →
    s.tag.read = some r → r.inOrder = true → r.settled = false → r.pos = 4127 →
    let tag := r.captured ++ [b]
    let isEmpty : Prop := r.allFF = true ∧ b = 0xFF
    let isTag : Prop := tag.take 2 = [0xA7, 0x3C] ∧ (crc16 (tag.take 30)).toNat = ofBe (tag.drop 30)
    let isPlaced : Prop :=
      ofBe ((tag.drop 19).take 4) = r.page.toNat + 128 * r.block.toNat + 262144 * r.module.val
    let isWhole : Prop := ofBe ((tag.drop 2).take 4) = (~~~r.crc).toNat
    let key : SuspectKey := ⟨r.module, r.block, some r.page⟩
    let found : Reason → Suspect := fun reason =>
      { key := key, reason := reason, verdict := .damaged, writeSeq := some (ofBe ((tag.drop 6).take 4)), shock := none
        stamp := s.clock.stamp }
    let t : Counters → State := fun counters =>
      { s with
        ports := ⟨[.strobe q.module], some b, []⟩
        arb := { s.arb with gapFrom := none }
        tag :=
          { s.tag with
            read := some
              { r with
                pos := 4128, captured := tag, allFF := r.allFF && decide (b = 0xFF), settled := true } }
        counters := counters }
    let damaged : Counters → Suspect → Suspect → State := fun counters old new =>
      { t counters with
        ret :=
          { s.ret with
            suspects := s.ret.suspects.map fun x => if x.key = key then { new with verdict := .damaged } else x }
        causes := if old.verdict = .isOpen then s.causes ||| 4 else s.causes }
    let added : Counters → Suspect → State := fun counters new =>
      { t counters with
        ret :=
          { s.ret with
            suspects := if s.ret.suspects.length < 48 then s.ret.suspects ++ [new] else s.ret.suspects
            overflow := if s.ret.suspects.length < 48 then s.ret.overflow else min (s.ret.overflow + 1) 255 }
        causes := s.causes ||| (if s.ret.suspects.length < 48 then 4 else 132) }
    let empty := { s.counters with empty := min (s.counters.empty + 1) 65535 }
    let untagged := { s.counters with untagged := min (s.counters.untagged + 1) 65535 }
    let misplaced := { s.counters with misplaced := min (s.counters.misplaced + 1) 65535 }
    let mismatch := { s.counters with mismatch := min (s.counters.mismatch + 1) 65535 }
    let matched := { s.counters with matched := min (s.counters.matched + 1) 65535 }
    ((∀ e ∈ s.ret.suspects, e.key ≠ key) →
      (isEmpty → exec (.dataOutStrobe b) s = .next (t empty))
      ∧ (¬isEmpty → ¬isTag → exec (.dataOutStrobe b) s = .next (t untagged))
      ∧ (¬isEmpty → isTag → ¬isPlaced → exec (.dataOutStrobe b) s = .next (added misplaced (found .misplaced)))
      ∧ (¬isEmpty → isTag → isPlaced → ¬isWhole → exec (.dataOutStrobe b) s = .next (added mismatch (found .mismatch)))
      ∧ (¬isEmpty → isTag → isPlaced → isWhole → exec (.dataOutStrobe b) s = .next (t matched)))
    ∧ (∀ e, findSuspect s.ret.suspects key = some e →
      (isEmpty → exec (.dataOutStrobe b) s = .next (if e.reason = .lost then t empty else damaged empty e e))
      ∧ (¬isEmpty → ¬isTag → exec (.dataOutStrobe b) s = .next (damaged untagged e e))
      ∧ (¬isEmpty → isTag → ¬isPlaced → exec (.dataOutStrobe b) s = .next (damaged misplaced e (found .misplaced)))
      ∧ (¬isEmpty → isTag → isPlaced → ¬isWhole → exec (.dataOutStrobe b) s = .next
        (damaged mismatch e (if e.reason = .misplaced then e else found .mismatch)))
      ∧ (¬isEmpty → isTag → isPlaced → isWhole → exec (.dataOutStrobe b) s = .next
        (if e.reason = .lost ∨ e.reason = .mismatch ∨ e.reason = .misplaced then t matched
         else
           { t matched with
             ret := { s.ret with suspects := s.ret.suspects.filter fun x => decide (x.key ≠ key) } })))

/-- READ_CLOSE of an open read whose close code has not come. Passed through, it is forwarded and starts the module's read busy
period of 1 ms; discarded, refused, absent or a service page without a report, it is absorbed (R4, R5, R12, R13, R17); of a report
page it does what that page's own event does, which is the model's reading of two names for one code (log 21). That a discarded,
refused or absent program or erase ends at its own close code, with nothing forwarded and no slot formed, is the model's reading of
the table of 1.1 beside R4 and R12 (log 11); the end is reported to doze control (R188). That any of these ends a STATUS nested in
the sequence (`State.nestedEnded`) is its reading too (1.1; log 10), and that the CE# pins are not looked at its choice (log 36). -/
def Obligations.ReadCloseStartsTheBusyPeriod : Prop :=
  ∀ (s : State) (q : Seq), s.phase = .running → s.relay.absorb = false → s.relay.seq = some q → q.handling ≠ .latching →
    q.closeTaken = false →
    (q.kind = .read →
      let relay : Relay := { s.nestedEnded.relay with seq := some { q with closeTaken := true } }
      (q.handling = .passed → exec .readClose s = .next
        { s.nestedEnded with
          ports := ⟨[.code q.module 0x15], none, []⟩
          arb := { s.arb with gapFrom := none }
          relay := { relay with readBusy := s.relay.readBusy.set q.module (some (s.now + 1000)) } })
      ∧ (q.handling ∈ [.discarded, .refused, .absent, .svcBlank] → exec .readClose s = .next
        { s.nestedEnded with ports := ⟨[], none, []⟩, relay := relay })
      ∧ (∀ (p : BitVec 7) (column : Nat), q.handling = .svcReport p column →
        ∀ c, (c, p) ∈ [(Instr.reportPage1, (1 : BitVec 7)), (.reportPage2, 2), (.reportPage3, 3), (.reportPage4, 4),
          (.reportPage5, 5), (.reportPage6, 6), (.reportPage7, 7)] →
        exec .readClose s = exec c s ∧ ∃ t, exec .readClose s = .next t ∧ t.relay = relay ∧ t.doze = s.nestedEnded.doze))
    ∧ (q.handling ∈ [.discarded, .refused, .absent] →
      let t : State :=
        { s with
          ports := ⟨[], none, []⟩
          relay := { s.relay with seq := none, nested := none, stray := false }
          doze := { s.doze with idleFromMs := s.now / 1000 } }
      (q.kind = .program → exec .programClose s = .next t) ∧ (q.kind = .erase → exec .eraseClose s = .next t))

/-- A code with no place where it arrives: a close code or COLUMN MOVE with no sequence open, a close code of another kind or a
second one, a COLUMN MOVE inside an erase, STATUS or IDENTIFY, a byte outside the table. It is counted PROTOCOL and ignored, and the
open sequence continues (R3); after an ignored open code it is absorbed (R2, R19). By the model's reading it is counted inside a
discarded, refused or absent sequence too (log 11), and leaves a STATUS that waits for its byte, nested or not, open (log 10). Any
of these codes, and a close code of the sequence's own kind, that comes in an address phase cuts it: the sequence is discarded and
counted once, and that own close code ends a program or erase too (R3; log 13). The twelve codes of R196 pick their commands, and
any other byte is the UNPLACED_CODE. That the CE# pins are not looked at is the model's choice (log 36). -/
def Obligations.UnplacedCodeIsCounted : Prop :=
  (∀ (s : State) (c : Instr) (closes : Option SeqKind), s.phase = .running →
    let isMove : Prop := ∃ col, c = .columnMove col
    let isUnknown : Prop := ∃ b, c = .unplacedCode b ∧ channelCodeOf b = none
    (c, closes) ∈ [(Instr.readClose, some SeqKind.read), (.programClose, some .program), (.eraseClose, some .erase)]
      ∨ (isMove ∨ isUnknown) ∧ closes = none →
    let t : State := { s with ports := ⟨[], none, []⟩ }
    let counted : State := { t with counters := { s.counters with protocol := min (s.counters.protocol + 1) 65535 } }
    (s.relay.absorb = true → exec c s = .next t)
    ∧ (s.relay.absorb = false →
      (s.relay.seq = none → exec c s = .next counted)
      ∧ (∀ q, s.relay.seq = some q → q.handling ≠ .latching →
        isUnknown ∨ (isMove ∧ q.kind ∈ [.erase, .status, .identify])
          ∨ (closes ≠ none ∧ (closes ≠ some q.kind ∨ q.closeTaken = true)) →
        exec c s = .next counted)
      ∧ (∀ q, s.relay.seq = some q → q.handling = .latching → s.relay.nested = none →
        (closes = some q.kind → q.kind ≠ .read → exec c s = .next
          { counted with
            relay := { s.relay with seq := none, stray := false }
            doze := { s.doze with idleFromMs := s.now / 1000 } })
        ∧ (closes ≠ some q.kind ∨ q.kind = .read → exec c s = .next
          { counted with relay := { s.relay with seq := some { q with handling := .discarded } } }))))
  ∧ ∀ col : BitVec 16,
    codeCommand 0x05 col = .readOpen ∧ codeCommand 0x15 col = .readClose ∧ codeCommand 0x0B col = .programOpen
    ∧ codeCommand 0x1B col = .programClose ∧ codeCommand 0x0E col = .eraseOpen ∧ codeCommand 0x1E col = .eraseClose
    ∧ codeCommand 0x0C col = .status ∧ codeCommand 0x0F col = .moduleReset ∧ codeCommand 0x06 col = .suspend
    ∧ codeCommand 0x07 col = .resume ∧ codeCommand 0x09 col = .identify ∧ codeCommand 0x0A col = .columnMove col
    ∧ ∀ c : Byte, c ∉ [0x05, 0x15, 0x0B, 0x1B, 0x0E, 0x1E, 0x0C, 0x0F, 0x06, 0x07, 0x09, 0x0A] →
      codeCommand c col = .unplacedCode c

/-! ### The confirm -/

/-- PROGRAM_CLOSE of a passed-through program, the level not CRITICAL, and ERASE_CLOSE of a passed-through erase at NORMAL, with
the monitor CALM or BLIND: the tag of a tagged program is completed first, by a COLUMN MOVE to 4096 and a whole tag where its
stream stopped in the data columns and by the tag bytes not yet sent otherwise (`State.tagCompletion`: R32, R33); the slot records
the operation, is ISSUED in BUSY with its timer from 0, and the close code is forwarded (R7, R82 to R84, R124). That a confirm is
decided within one command, that the last outcome of the operation before stays, and that the CE# pins are not looked at, are the
model's choices (log 23, log 19, log 36). -/
def Obligations.ConfirmIsIssued : Prop :=
  ∀ (s : State) (q : Seq), s.phase = .running → s.InSequence q → q.handling = .passed → q.closeTaken = false →
    s.mon.state = .calm ∨ s.mon.state = .blind →
    let issued : OpKind → BitVec 11 → Option (BitVec 7) → Bool → Option Nat → List ModuleCycle → State :=
      fun kind block page tagged writeSeq cycles =>
      { s with
        ports := ⟨cycles, none, []⟩
        arb := { s.arb with gapFrom := none }
        ret :=
          { s.ret with
            slots := s.ret.slots.set q.module
              { state := .issued, kind := some kind, block := some block, page := page, tagged := tagged,
                writeSeq := writeSeq, level := some s.gauge.level, holdStart := none, cause := none, exposure := none,
                busyMs := 0, last := (s.slotRec q.module).last } }
        slots := s.slots.set q.module
          { state := .issued, step := some .busy, suspendFlag := false, issueMs := some (s.now / 1000),
            timerValue := 0, timerFrom := some (s.now / 1000), keptReturn := false }
        relay := { s.relay with seq := none, nested := none, stray := false }
        doze := { s.doze with idleFromMs := s.now / 1000 } }
    (∀ p, q.kind = .program → s.gauge.level ≠ .critical → s.tag.program = some p →
      let c := s.tagCompletion p
      let t := issued .program p.block (some p.page) p.tagged c.2.1 (c.1 ++ [.code q.module 0x1B])
      exec .programClose s = .next
        { t with ret := { t.ret with writeSeq := c.2.2 }, tag := { s.tag with program := none } })
    ∧ (q.kind = .erase → s.gauge.level = .normal →
      exec .eraseClose s = .next (issued .erase q.addr.block none false none [.code q.module 0x1E]))

/-- PROGRAM_CLOSE of a passed-through program with the level not CRITICAL, and ERASE_CLOSE of a passed-through erase at NORMAL, with
the monitor FALLING, STRUCK or SETTLING: the tag of a tagged program is completed (`State.tagCompletion`: R32, R33), the slot is
HELD in WAITING from now and joins the tail of the release queue, HOLDS grows, the close code is kept back, and the open record
counts the module as held once (R7, R72, R83 to R85, R124). That a confirm is decided within one command, that the last outcome of
the operation before and the suspend flag stay, and that the CE# pins are not looked at, are the model's choices (log 23, log 19,
log 26, log 36). -/
def Obligations.ConfirmIsHeld : Prop :=
  ∀ (s : State) (q : Seq) (n : Nat), s.phase = .running → s.InSequence q → q.handling = .passed →
    q.closeTaken = false → s.mon.state = .falling ∨ s.mon.state = .struck ∨ s.mon.state = .settling →
    s.mon.openRec = some n →
    let held : OpKind → BitVec 11 → Option (BitVec 7) → Bool → Option Nat → State :=
      fun kind block page tagged writeSeq =>
      { s with
        ports := ⟨[], none, []⟩
        ret :=
          { s.ret with
            slots := s.ret.slots.set q.module
              { state := .held, kind := some kind, block := some block, page := page, tagged := tagged,
                writeSeq := writeSeq, level := some s.gauge.level, holdStart := some (s.now / 1000), cause := none,
                exposure := none, busyMs := 0, last := (s.slotRec q.module).last }
            shocks :=
              if q.module ∈ s.mon.heldCounted then s.ret.shocks
              else s.ret.shocks.map fun r =>
                if r.number = n ∧ r.isOpen = true then { r with held := r.held + 1 } else r }
        slots := s.slots.set q.module
          { state := .held, step := some .waiting, suspendFlag := (s.slotLive q.module).suspendFlag, issueMs := none,
            timerValue := 0, timerFrom := none, keptReturn := false }
        releaseQueue := s.releaseQueue ++ [q.module]
        mon :=
          if q.module ∈ s.mon.heldCounted then s.mon
          else { s.mon with heldCounted := s.mon.heldCounted ++ [q.module] }
        counters := { s.counters with holds := min (s.counters.holds + 1) 65535 }
        relay := { s.relay with seq := none, nested := none, stray := false }
        doze := { s.doze with idleFromMs := s.now / 1000 } }
    (∀ p, q.kind = .program → s.gauge.level ≠ .critical → s.tag.program = some p →
      let c := s.tagCompletion p
      let t := held .program p.block (some p.page) p.tagged c.2.1
      exec .programClose s = .next
        { t with
          ports := ⟨c.1, none, []⟩
          arb := if p.tagged then { s.arb with gapFrom := none } else s.arb
          ret := { t.ret with writeSeq := c.2.2 }
          tag := { s.tag with program := none } })
    ∧ (q.kind = .erase → s.gauge.level = .normal →
      exec .eraseClose s = .next (held .erase q.addr.block none false none))

/-- A confirm refused by admission, ERASE_CLOSE at RESERVE or CRITICAL and PROGRAM_CLOSE at CRITICAL: the tag of a tagged program is
completed all the same (`State.tagCompletion`: R32, R33, R125), the close code is kept back, the slot stays FREE with last outcome
REFUSED, the override becomes READY-FAIL, the refusal counter of the kind grows and REFUSAL is raised (R83, R124 to R126). That a
confirm is decided within one command, that the level admitted before stays, and that the CE# pins are not looked at, are the model's
choices (log 23, log 19, log 36). -/
def Obligations.ConfirmIsRefusedByLevel : Prop :=
  ∀ (s : State) (q : Seq), s.phase = .running → s.InSequence q → q.handling = .passed → q.closeTaken = false →
    (s.slotRec q.module).state = .free →
    let refused : OpKind → BitVec 11 → Option (BitVec 7) → Bool → Option Nat → State :=
      fun kind block page tagged writeSeq =>
      { s with
        ports := ⟨[], none, []⟩
        ret :=
          { s.ret with
            slots := s.ret.slots.set q.module
              { s.slotRec q.module with
                kind := some kind, block := some block, page := page, tagged := tagged, writeSeq := writeSeq,
                holdStart := none, cause := none, exposure := none, busyMs := 0, last := some .refused } }
        relay :=
          { s.relay with
            readyFail := s.relay.readyFail.set q.module true
            seq := none, nested := none, stray := false }
        causes := s.causes ||| 16
        doze := { s.doze with idleFromMs := s.now / 1000 } }
    (q.kind = .erase → s.gauge.level = .reserve ∨ s.gauge.level = .critical → exec .eraseClose s = .next
      { refused .erase q.addr.block none false none with
        counters := { s.counters with refusedErases := min (s.counters.refusedErases + 1) 65535 } })
    ∧ (∀ p, q.kind = .program → s.gauge.level = .critical → s.tag.program = some p →
      let c := s.tagCompletion p
      let t := refused .program p.block (some p.page) p.tagged c.2.1
      exec .programClose s = .next
        { t with
          ports := ⟨c.1, none, []⟩
          arb := if p.tagged then { s.arb with gapFrom := none } else s.arb
          ret := { t.ret with writeSeq := c.2.2 }
          tag := { s.tag with program := none }
          counters := { s.counters with refusedPrograms := min (s.counters.refusedPrograms + 1) 65535 } })

/-! ### Busy periods and their limits -/

/-- MODULE_READY_RETURN goes to the first that waits on it: a read busy period, which ends; a reset busy period, which completes
with health OK and override NONE; a residual busy period, which ends; an ISSUED slot in BUSY or SUSPENDING, whose timer stops and
whose STATUS_CHECK takes the place of its queued insert or joins the tail of the insert queue; a slot whose RELEASE or RESUME runs,
which keeps the return. With none of these waiting it has no effect: the slot FREE, HELD with no RELEASE running, SUSPENDED with no
RESUME running, or in CHECKING (R9, R15, R16, R20, R97). -/
def Obligations.ReadyReturnGoesToWhatWaits : Prop :=
  ∀ (s : State) (k : ModuleId), s.phase = .running →
    let check : Insert := { module := k, kind := .statusCheck, cause := none }
    let l := s.slotLive k
    let isAtWork : Prop := l.state = .issued ∧ (l.step = some .busy ∨ l.step = some .suspending)
    let isOnItsWay : Prop :=
      l.state = .held ∧ l.step = some .releasing
        ∨ l.state = .suspended ∧ l.step = some .resuming ∧ ∃ e, s.arb.running = some e ∧ e.module = k ∧ e.kind = .resume
    (s.relay.readBusy.get k ≠ none → exec (.moduleReadyReturn k) s = .next
      { s with ports := ⟨[], none, []⟩, relay := { s.relay with readBusy := s.relay.readBusy.set k none } })
    ∧ (s.relay.readBusy.get k = none → s.relay.resetBusy.get k ≠ none → exec (.moduleReadyReturn k) s = .next
      { s with
        ports := ⟨[], none, []⟩
        relay :=
          { s.relay with
            resetBusy := s.relay.resetBusy.set k none
            stuck := s.relay.stuck.set k false
            readyFail := s.relay.readyFail.set k false } })
    ∧ (s.relay.readBusy.get k = none → s.relay.resetBusy.get k = none →
      (s.relay.residual.get k ≠ none → exec (.moduleReadyReturn k) s = .next
        { s with ports := ⟨[], none, []⟩, relay := { s.relay with residual := s.relay.residual.set k none } })
      ∧ (s.relay.residual.get k = none →
        (isAtWork → exec (.moduleReadyReturn k) s = .next
          { s with
            ports := ⟨[], none, []⟩
            arb :=
              { s.arb with
                queue :=
                  if s.arb.queue.any (fun e => decide (e.module = k)) then
                    s.arb.queue.map fun e => if e.module = k then check else e
                  else s.arb.queue ++ [check] }
            slots := s.slots.set k
              { l with step := some .checking, timerValue := l.busyMs (s.now / 1000), timerFrom := none } })
        ∧ (isOnItsWay → exec (.moduleReadyReturn k) s = .next
          { s with ports := ⟨[], none, []⟩, slots := s.slots.set k { l with keptReturn := true } })
        ∧ (¬isAtWork → ¬isOnItsWay → exec (.moduleReadyReturn k) s = .next { s with ports := ⟨[], none, []⟩ })))

/-- READ_BUSY_TIMEOUT at 1 ms, RESET_BUSY_TIMEOUT at 5 ms and RESIDUAL_BUSY_TIMEOUT at 50 ms: the busy period ends with the module
STUCK, MODULE raised if it was OK, TIMEOUT grown and the override READY-FAIL, and nothing else changes; but the read itself, where it
is still open, is timed out, and its check, not settled yet, is counted SKIPPED (R9, R11, R13, R15, R39, R40). That the time base
runs on to the limit, and that a limit is met where it is reached, are the model's choices (log 3, log 16). -/
def Obligations.BusyLimitMakesTheModuleStuck : Prop :=
  ∀ (s : State) (k : ModuleId) (due : Nat), s.phase = .running → s.now ≤ due →
    let relay : Relay :=
      { s.relay with stuck := s.relay.stuck.set k true, readyFail := s.relay.readyFail.set k true }
    let t : State :=
      { s with
        ports := ⟨[], none, []⟩
        now := due
        causes := if s.relay.stuck.get k then s.causes else s.causes ||| 64
        counters := { s.counters with timeout := min (s.counters.timeout + 1) 65535 } }
    (s.relay.readBusy.get k = some due →
      ((∀ q, s.relay.seq = some q → q.module ≠ k ∨ q.kind ≠ .read ∨ q.handling ≠ .passed ∨ q.closeTaken = false) →
        exec (.readBusyTimeout k) s = .next
          { t with relay := { relay with readBusy := s.relay.readBusy.set k none } })
      ∧ (∀ q r, s.relay.seq = some q → q.module = k → q.kind = .read → q.handling = .passed → q.closeTaken = true →
        s.tag.read = some r →
        exec (.readBusyTimeout k) s = .next
          { t with
            relay := { relay with readBusy := s.relay.readBusy.set k none, seq := some { q with timedOut := true } }
            tag := { s.tag with read := some { r with settled := true } }
            counters :=
              if r.settled then t.counters
              else { t.counters with skipped := min (s.counters.skipped + 1) 65535 } }))
    ∧ (s.relay.resetBusy.get k = some due → exec (.resetBusyTimeout k) s = .next
      { t with relay := { relay with resetBusy := s.relay.resetBusy.set k none } })
    ∧ (s.relay.residual.get k = some due → exec (.residualBusyTimeout k) s = .next
      { t with relay := { relay with residual := s.relay.residual.set k none } })

/-- BUSY_TIMER_EXPIRY of an ISSUED slot whose timer runs, its limit 10 ms for a program and 50 ms for an erase: the slot closes
TIMED_OUT with its busy time, no insert left behind, and its entry handed; its module becomes STUCK with the override READY-FAIL,
MODULE raised if it was OK, and TIMEOUT grows (R14, R82, R99, R101, R102). The busy time counts the ms its timer runs, to at most
65535 (R82). A slot in another state, or with no running timer as in CHECKING, does not time out (R99). An entry handed to the list
joins its tail, or merges into the entry of its key, the more severe reason winning and a tie going to the new one, or, where the
list is full, is dropped with the overflow count grown to at most 255 and LIST_FULL raised (R144, R145). That the busy time passes
its limit one whole ms beyond it is the model's reading (log 16); that the time base runs on to that moment, and that the suspend
flag stays, are its choices (log 3, log 26). -/
def Obligations.BusyTimerExpiryClosesTimedOut : Prop :=
  (∀ (s : State) (k : ModuleId), s.phase = .running →
    (∀ start, (s.slotLive k).state = .issued → (s.slotLive k).timerFrom = some start →
      let limit := if (s.slotRec k).kind = some .erase then 50 else 10
      let now := max s.now (1000 * (start + (limit + 1 - (s.slotLive k).timerValue)))
      let list := addSuspect s.ret.suspects s.ret.overflow ((s.slotRec k).entry k .timedOut s.clock.stamp)
      let causes := if list.2.2 then s.causes ||| 128 else s.causes
      exec (.busyTimerExpiry k) s = .next
        { s with
          ports := ⟨[], none, []⟩
          now := now
          arb := { s.arb with queue := s.arb.queue.filter fun e => decide (e.module ≠ k) }
          ret :=
            { s.ret with
              slots := s.ret.slots.set k
                { s.slotRec k with
                  state := .free, last := some .timedOut, busyMs := (s.slotLive k).busyMs (now / 1000) }
              suspects := list.1
              overflow := list.2.1 }
          slots := s.slots.set k
            { s.slotLive k with state := .free, step := none, issueMs := none, timerFrom := none, keptReturn := false }
          releaseQueue := s.releaseQueue.filter fun m => decide (m ≠ k)
          relay := { s.relay with stuck := s.relay.stuck.set k true, readyFail := s.relay.readyFail.set k true }
          causes := if s.relay.stuck.get k then causes else causes ||| 64
          counters := { s.counters with timeout := min (s.counters.timeout + 1) 65535 } })
    ∧ ((s.slotLive k).state ≠ .issued ∨ (s.slotLive k).timerFrom = none →
      exec (.busyTimerExpiry k) s = .next { s with ports := ⟨[], none, []⟩ }))
  ∧ ∀ (list : List Suspect) (overflow : Nat) (e : Suspect),
    (∀ x, findSuspect list e.key = some x →
      addSuspect list overflow e =
        (list.map fun y => if y.key = e.key then (if x.reason.code ≤ e.reason.code then e else x) else y, overflow, false))
    ∧ ((∀ x ∈ list, x.key ≠ e.key) →
      addSuspect list overflow e =
        if list.length < 48 then (list ++ [e], overflow, false) else (list, min (overflow + 1) 255, true))
    ∧ ∀ (l : SlotLive) (ms : Nat),
      (l.timerFrom = none → l.busyMs ms = min l.timerValue 65535)
      ∧ ∀ start, l.timerFrom = some start → l.busyMs ms = min (l.timerValue + (ms - start)) 65535

/-- HOLD_LIMIT_EXPIRY of a slot HELD in WAITING: a RELEASE with cause HOLD_LIMIT takes its place in the insert queue, HOLD_BREAKS
grows and HOLD_BREAK is raised; the hold start stands (R86, R89). That the time base runs on to the first ms beyond HOLD_LIMIT is
the model's choice (log 3, log 16). -/
def Obligations.HoldLimitReleasesTheSlot : Prop :=
  ∀ (s : State) (k : ModuleId) (start : Nat), s.phase = .running → (s.slotLive k).state = .held →
    (s.slotLive k).step = some .waiting → (s.slotRec k).holdStart = some start →
    (∀ e ∈ s.arb.queue, e.module ≠ k) →
    exec (.holdLimitExpiry k) s = .next
      { s with
        ports := ⟨[], none, []⟩
        now := max s.now (1000 * (start + s.ret.settings.holdLimit.toNat + 1))
        arb := { s.arb with queue := s.arb.queue ++ [{ module := k, kind := .release, cause := some .holdLimit }] }
        slots := s.slots.set k { s.slotLive k with step := some .releaseQueued }
        counters := { s.counters with holdBreaks := min (s.counters.holdBreaks + 1) 65535 }
        causes := s.causes ||| 32 }

/-! ### Inserts -/

/-- INSERT_START with no sequence open, WAIT released and the gap over: the head leaves the queue and runs, WAIT is asserted, and
its cycles go out under its module's CE#. A STATUS_CHECK or SUSPEND changes nothing else. A RELEASE of a HELD slot records the
slot ISSUED with its cause, its live state stays HELD in RELEASING, and its issue time and busy timer start; with the monitor
FALLING, STRUCK or SETTLING a slot not exposed yet is marked exposed to the open record at offset 0, which counts its module once. A
RESUME of a SUSPENDED slot records it ISSUED with the busy time reached and clears its suspend flag (R21, R22, R72, R81,
R87, R88, R96). That the insert's cycles are all driven at its start is the model's choice (log 22). -/
def Obligations.InsertStartRunsTheHead : Prop :=
  ∀ (s : State) (e : Insert) (rest : List Insert), s.phase = .running → s.arb.queue = e :: rest →
    s.relay.seq = none → s.wait = false → (∀ g, s.arb.gapFrom = some g → g + 2 ≤ s.now) →
    let k := e.module
    let t : List ModuleCycle → State := fun cycles =>
      { s with ports := ⟨cycles, none, []⟩, arb := { s.arb with queue := rest, running := some e } }
    (∀ cycles, (t cycles).wait = true)
    ∧ (e.kind = .statusCheck → exec .insertStart s = .next (t [.code k 0x0C, .strobe k]))
    ∧ (e.kind = .suspend → exec .insertStart s = .next (t [.code k 0x06]))
    ∧ (e.kind = .release → (s.slotLive k).state = .held →
      let r : SlotRec := { s.slotRec k with state := .issued, cause := e.cause, busyMs := 0 }
      let u : State :=
        { t [.code k (if r.kind = some .erase then 0x1E else 0x1B)] with
          ret := { s.ret with slots := s.ret.slots.set k r }
          slots := s.slots.set k
            { s.slotLive k with
              step := some .releasing, suspendFlag := false, issueMs := some (s.now / 1000), timerValue := 0,
              timerFrom := some (s.now / 1000), keptReturn := false } }
      (s.mon.state = .calm ∨ s.mon.state = .blind ∨ r.exposure ≠ none → exec .insertStart s = .next u)
      ∧ (∀ n, s.mon.state = .falling ∨ s.mon.state = .struck ∨ s.mon.state = .settling → s.mon.openRec = some n →
        r.exposure = none →
        let exposed : State :=
          { u with
            ret :=
              { s.ret with
                slots := s.ret.slots.set k { r with exposure := some { record := n, offset := 0 } }
                shocks := s.ret.shocks.map fun x =>
                  if k ∉ s.mon.exposedCounted ∧ x.number = n ∧ x.isOpen = true then { x with exposed := x.exposed + 1 }
                  else x }
            mon :=
              { s.mon with
                exposedCounted := s.mon.exposedCounted ++ if k ∈ s.mon.exposedCounted then [] else [k] } }
        exec .insertStart s = .next exposed))
    ∧ (e.kind = .resume → (s.slotLive k).state = .suspended → exec .insertStart s = .next
      { t [.code k 0x07] with
        ret :=
          { s.ret with
            slots := s.ret.slots.set k
              { s.slotRec k with state := .issued, busyMs := (s.slotLive k).busyMs (s.now / 1000) } }
        slots := s.slots.set k { s.slotLive k with suspendFlag := false, keptReturn := false } })

/-- STATUS_CHECK_COMPLETE for an ISSUED slot in CHECKING whose suspend flag is clear: READY clear leaves it ISSUED in BUSY with its
timer counting on; READY closes it DONE with FAIL clear and FAILED with FAIL set (R98). For a slot whose suspend flag is set, in
SUSPENDING, CHECKING or RECHECKING: the module's SUSPENDED bit leaves it SUSPENDED in PARKED with its timer stopped, and its RESUME
is requested at once with the monitor CALM or BLIND; without that bit it closes, FAILED with FAIL set and else DONE (R95). A close
is written with the busy time and leaves the release queue (R101); DONE without an exposure hands no entry and, of an erase, takes
every entry of its block out; DONE with an exposure hands an EXPOSED entry, and FAILED a FAILED one (R102, R103, R151). The entry that
a slot's record hands, at any close, has the key of its module and block, with the page of a program and none of an erase, the write
sequence of a tagged program and else none, the exposure's record number for EXPOSED alone, verdict OPEN and the stamp (R102, R134,
R142, R143). That the suspend flag of a closed slot stays is the model's choice (log 26). -/
def Obligations.StatusCheckSettlesTheSlot : Prop :=
  (∀ (r : SlotRec) (k : ModuleId) (reason : Reason) (stamp : Nat),
    let e := r.entry k reason stamp
    e.key.module = k ∧ (∀ block, r.block = some block → e.key.block = block)
    ∧ e.reason = reason ∧ e.verdict = .isOpen ∧ e.stamp = stamp
    ∧ (r.kind = some .erase → e.key.page = none ∧ e.writeSeq = none)
    ∧ (r.kind = some .program →
      e.key.page = r.page ∧ e.writeSeq = (if r.tagged then r.writeSeq else none))
    ∧ (∀ x, r.exposure = some x → reason = .exposed → e.shock = some x.record)
    ∧ (r.exposure = none ∨ reason ≠ .exposed → e.shock = none))
  ∧ ∀ (s : State) (k : ModuleId) (e : Insert) (b : Byte), s.phase = .running → s.arb.running = some e → e.module = k →
    e.kind = .statusCheck →
    let r := s.slotRec k
    let l := s.slotLive k
    let t : State :=
      { s with ports := ⟨[], none, []⟩, arb := { s.arb with running := none, gapFrom := some s.now } }
    let closed : SlotOutcome → State := fun o =>
      { t with
        ret :=
          { s.ret with
            slots := s.ret.slots.set k { r with state := .free, last := some o, busyMs := l.busyMs (s.now / 1000) } }
        slots := s.slots.set k
          { l with state := .free, step := none, issueMs := none, timerFrom := none, keptReturn := false }
        releaseQueue := s.releaseQueue.filter fun m => decide (m ≠ k) }
    let handed : State → Reason → State := fun u reason =>
      let list := addSuspect s.ret.suspects s.ret.overflow (r.entry k reason s.clock.stamp)
      { u with
        ret := { u.ret with suspects := list.1, overflow := list.2.1 }
        causes := if list.2.2 then s.causes ||| 128 else s.causes }
    let done : State :=
      if r.exposure ≠ none then handed (closed .done) .exposed
      else if r.kind = some .erase then
        { closed .done with
          ret :=
            { (closed .done).ret with
              suspects := s.ret.suspects.filter fun x => decide (x.key.module ≠ k ∨ x.key.block ≠ r.block.getD 0) } }
      else closed .done
    let failed : State := handed (closed .failed) .failed
    (l.state = .issued → l.step = some .checking → l.suspendFlag = false →
      (b.getLsbD 7 = false → exec (.statusCheckComplete b) s = .next
        { t with slots := s.slots.set k { l with step := some .busy, timerFrom := some (s.now / 1000) } })
      ∧ (b.getLsbD 7 = true → b.getLsbD 0 = false → exec (.statusCheckComplete b) s = .next done)
      ∧ (b.getLsbD 7 = true → b.getLsbD 0 = true → exec (.statusCheckComplete b) s = .next failed))
    ∧ (l.state = .issued ∨ l.state = .suspended → l.suspendFlag = true →
      l.step = some .suspending ∨ l.step = some .checking ∨ l.step = some .rechecking →
      (b.getLsbD 6 = true →
        let parked : SlotStep → State := fun step =>
          { t with
            ret :=
              { s.ret with
                slots := s.ret.slots.set k { r with state := .suspended, busyMs := l.busyMs (s.now / 1000) } }
            slots := s.slots.set k
              { l with
                state := .suspended, step := some step, timerValue := l.busyMs (s.now / 1000), timerFrom := none } }
        (s.mon.state = .falling ∨ s.mon.state = .struck ∨ s.mon.state = .settling →
          exec (.statusCheckComplete b) s = .next (parked .parked))
        ∧ (s.mon.state = .calm ∨ s.mon.state = .blind → exec (.statusCheckComplete b) s = .next
          { parked .resuming with
            arb :=
              { s.arb with
                running := none, gapFrom := some s.now, queue := requested s.arb.queue [k] .resume none } }))
      ∧ (b.getLsbD 6 = false → b.getLsbD 0 = false → exec (.statusCheckComplete b) s = .next done)
      ∧ (b.getLsbD 6 = false → b.getLsbD 0 = true → exec (.statusCheckComplete b) s = .next failed))

/-- SUSPEND_COMPLETE, RESUME_COMPLETE and RELEASE_COMPLETE: WAIT is released and the gap begins. After a SUSPEND with the module's
line ready, an ISSUED slot is in CHECKING and a SUSPENDED one stays in RECHECKING, its timer stops, and its STATUS_CHECK is
requested, in the place of one already queued; with the line busy the slot waits (one in RECHECKING or CHECKING by the model's
choice, log 35), and a slot FREE meanwhile drops the report. After a RESUME a SUSPENDED slot is ISSUED and its timer counts on;
after a RELEASE a HELD slot leaves the release queue and is ISSUED. Either is in CHECKING with its STATUS_CHECK requested where the
module's ready came meanwhile, else in SUSPENDING where a SUSPEND was requested meanwhile, and else in BUSY (R20, R21, R88, R93,
R94, R96, R97, R99). That a RELEASE's completion writes no record, so that the retained busy time stays that of the insert's start, is
the model's choice (log 39). -/
def Obligations.InsertCompletionIsReported : Prop :=
  ∀ (s : State) (e : Insert), s.phase = .running → s.arb.running = some e →
    let k := e.module
    let l := s.slotLive k
    let t : State :=
      { s with ports := ⟨[], none, []⟩, arb := { s.arb with running := none, gapFrom := some s.now } }
    let checked : State :=
      { t with
        arb :=
          { s.arb with queue := requested s.arb.queue [k] .statusCheck none, running := none, gapFrom := some s.now } }
    let step : SlotStep := if ∃ x ∈ s.arb.queue, x.module = k ∧ x.kind = .suspend then .suspending else .busy
    (e.kind = .suspend →
      let looks : SlotStep → State := fun step =>
        { checked with
          slots := s.slots.set k { l with step := some step, timerValue := l.busyMs (s.now / 1000), timerFrom := none } }
      exec (.suspendComplete false) s = .next t
      ∧ (l.state = .issued → exec (.suspendComplete true) s = .next (looks .checking))
      ∧ (l.state = .suspended → exec (.suspendComplete true) s = .next (looks .rechecking))
      ∧ (l.state = .free → exec (.suspendComplete true) s = .next t))
    ∧ (e.kind = .resume → l.state = .suspended → l.timerValue ≤ 65535 →
      (l.keptReturn = false → exec .resumeComplete s = .next
        { t with
          slots := s.slots.set k { l with state := .issued, step := some step, timerFrom := some (s.now / 1000) } })
      ∧ (l.keptReturn = true → exec .resumeComplete s = .next
        { checked with
          slots := s.slots.set k
            { l with state := .issued, step := some .checking, timerFrom := none, keptReturn := false } }))
    ∧ (e.kind = .release → l.state = .held →
      (l.keptReturn = false → exec .releaseComplete s = .next
        { t with
          releaseQueue := s.releaseQueue.filter fun m => decide (m ≠ k)
          slots := s.slots.set k { l with state := .issued, step := some step } })
      ∧ (l.keptReturn = true → exec .releaseComplete s = .next
        { checked with
          releaseQueue := s.releaseQueue.filter fun m => decide (m ≠ k)
          slots := s.slots.set k
            { l with
              state := .issued, step := some .checking, timerValue := l.busyMs (s.now / 1000), timerFrom := none,
              keptReturn := false } }))

/-! ### Motion -/

/-- POLL_DUE at its due time with the port IDLE: the command byte and seven 0x00 are clocked out, the transfer ends 16 µs later,
the next poll falls due one period after this one, and a wake's hold of WAIT ends, from where a gap still owed to the last insert
counts (R21, R43, R44, R190). That the time base runs on to the due time is the model's choice (log 3), and that the gap counts from
there its reading (log 31). -/
def Obligations.PollStartsATransfer : Prop :=
  ∀ s : State, s.phase = .running → s.fe.transfer = none → s.now ≤ s.fe.nextPoll →
    exec .pollDue s = .next
      { s with
        ports := ⟨[], none, [0xC0, 0x00, 0x00, 0x00, 0x00, 0x00, 0x00, 0x00]⟩
        now := s.fe.nextPoll
        arb :=
          { s.arb with
            wakeWait := false
            gapFrom := if s.arb.wakeWait ∧ s.arb.gapFrom ≠ none then some s.fe.nextPoll else s.arb.gapFrom }
        fe :=
          { s.fe with transfer := some (s.fe.nextPoll + 16), nextPoll := s.fe.nextPoll + s.fe.pollPeriod } }

/-- SAMPLE_ARRIVAL of a stale reply in CALM that neither ends the 64th of a run nor brings the average below FALL_LEVEL: the last
L1 enters the window, the stale counts grow, the low-run count becomes 0, and nothing else changes (R46, R48, R53, R61). That the
time base runs on to the end of the transfer is the model's choice (log 3). -/
def Obligations.StaleSampleRepeatsTheLast : Prop :=
  ∀ (s : State) (r : SensorReply) (due oldest : Nat) (rest : List Nat), s.phase = .running →
    s.fe.transfer = some due → s.now ≤ due → s.mon.state = .calm → s.fe.window = oldest :: rest →
    (r.status = 0xFF ∨ r.status.getLsbD 7 = false) → s.fe.staleCount + 1 < 64 →
    s.ret.settings.fallLevel ≤ ((s.fe.sum - oldest + s.fe.last.l1) / (rest.length + 1) : Nat) →
    exec (.sampleArrival r) s = .next
      { s with
        ports := ⟨[], none, []⟩
        now := due
        fe :=
          { s.fe with
            transfer := none
            window := rest ++ [s.fe.last.l1]
            sum := s.fe.sum - oldest + s.fe.last.l1
            staleCount := s.fe.staleCount + 1 }
        mon := { s.mon with lowRun := 0 }
        counters := { s.counters with stale := min (s.counters.stale + 1) 65535 } }

/-- SAMPLE_ARRIVAL of an impact sample in CALM with no slot live, the epoch not exhausted and a place free in the log: a KNOCK
record opens with the next number, one strike and this sample's peak, SHOCK is raised, and the monitor is STRUCK with that
record open (R61, R69, R70, R156). -/
def Obligations.ImpactInCalmOpensAKnock : Prop :=
  ∀ (s : State) (r : SensorReply) (due : Nat), s.phase = .running → s.fe.transfer = some due → s.mon.state = .calm →
    replyFresh r = true →
    (s.ret.settings.impactLevel ≤ (correctedSample s.ret.settings r).l1 ∨ replySaturated s.ret.settings r = true) →
    (∀ k, (s.slotLive k).state = .free) → s.ShocksOrdered → s.ret.epoch < 4294967295 →
    s.ret.shocks.length < 32 →
    let c := correctedSample s.ret.settings r
    let axis : Axis :=
      if c.cy.natAbs ≤ c.cx.natAbs ∧ c.cz.natAbs ≤ c.cx.natAbs then .x else if c.cz.natAbs ≤ c.cy.natAbs then .y else .z
    ∃ t, exec (.sampleArrival r) s = .next t
      ∧ t.ret.shocks = s.ret.shocks ++
        [{ number := s.ret.epoch + 1, kind := .knock, stamp := s.clock.stamp, duration := 0,
           peak := some { l1 := c.l1, axis := axis },
           saturated := replySaturated s.ret.settings r, strikes := 1,
           charge := s.gauge.q * 1000 / (s.ret.settings.capacity.toNat * 3600000), exposed := 0, held := 0, isOpen := true }]
      ∧ t.ret.epoch = s.ret.epoch + 1 ∧ t.causes = s.causes ||| 1
      ∧ t.mon.state = .struck ∧ t.mon.openRec = some (s.ret.epoch + 1)
      ∧ t.fe.last = c ∧ t.fe.staleCount = 0 ∧ t.doze.dozing = false
      ∧ t.ret.slots = s.ret.slots ∧ t.ret.suspects = s.ret.suspects ∧ t.ret.settings = s.ret.settings
      ∧ t.counters = s.counters ∧ t.relay = s.relay ∧ t.tag = s.tag ∧ t.svc = s.svc ∧ t.clock = s.clock
      ∧ t.gauge.q = s.gauge.q

/-- SAMPLE_ARRIVAL in each state of the monitor. A fresh reply refills the window after a run of 64 stale ones and enters it; a stale
one enters the last L1 and grows the stale counts (R46 to R48, R53, R57). CALM: an impact opens a KNOCK with one strike and enters
STRUCK; a low run of FALL_CONFIRM opens a FALL and enters FALLING (R61). FALLING: the duration grows; a strike makes the record a
DROP and enters STRUCK; an average from FALL_EXIT up enters SETTLING (R62). STRUCK: impacts add to the peak; the first other report
enters SETTLING (R63). SETTLING: a strike enters STRUCK; a confirmed fall enters FALLING; SETTLE_COUNT reports at rest close the
record and enter CALM (R64, R65, R71). The 64th stale report enters BLIND from any of them with a BLIND record, which the first
fresh one closes (R60, R67, R68). A departure from CALM reaches the slots and wakes the part (R66, R78). That the time base runs on
to the transfer's end is the model's choice (log 3). -/
def Obligations.SampleReportMovesTheMonitor : Prop :=
  ∀ (s : State) (r : SensorReply) (due : Nat), s.phase = .running → s.fe.transfer = some due → s.ShocksOrdered →
    let set := s.ret.settings
    let fresh := replyFresh r
    let c := if fresh then correctedSample set r else s.fe.last
    let saturated := fresh && replySaturated set r
    let filled := if fresh ∧ 64 ≤ s.fe.staleCount then List.replicate s.fe.window.length c.l1 else s.fe.window
    let filledSum := if fresh ∧ 64 ≤ s.fe.staleCount then c.l1 * s.fe.window.length else s.fe.sum
    let window := filled.tail ++ [c.l1]
    let sum := filledSum - filled.headD 0 + c.l1
    let average := sum / window.length
    let stale := if fresh then 0 else min (s.fe.staleCount + 1) 65535
    let impact : Prop := fresh = true ∧ (set.impactLevel ≤ (c.l1 : Int) ∨ saturated = true)
    let v : State :=
      { s with
        ports := ⟨[], none, []⟩
        now := max s.now due
        fe := { s.fe with transfer := none, last := c, staleCount := stale, window := window, sum := sum }
        counters := if fresh then s.counters else { s.counters with stale := min (s.counters.stale + 1) 65535 } }
    let axis : Axis :=
      if c.cy.natAbs ≤ c.cx.natAbs ∧ c.cz.natAbs ≤ c.cx.natAbs then .x else if c.cz.natAbs ≤ c.cy.natAbs then .y else .z
    let peak : Peak := { l1 := c.l1, axis := axis }
    let hit : ShockRec → ShockRec := fun k =>
      { k with
        peak := match k.peak with
          | none => some peak
          | some p => if p.l1 < c.l1 then some peak else some p
        saturated := k.saturated || saturated }
    let strike : ShockRec → ShockRec := fun k => { hit k with strikes := min (k.strikes + 1) 255 }
    let lasted : Nat → ShockRec → ShockRec := fun n k => { k with duration := min (k.duration + n) 65535 }
    let low := min (s.mon.lowRun + 1) 255
    let rest := min (s.mon.settle + 1) 4095
    let blinded := ((v.openRecClosed.recordOpened .blind 0 none).blindSignals).monitorAt .blind 0 0
    (s.mon.state = .calm → stale ≠ 64 →
      (impact → exec (.sampleArrival r) s = .next
        ((v.recordOpened .knock 0 (some (peak, saturated))).monitorAt .struck 0 s.mon.settle).departureSignals.departureWakes)
      ∧ (¬impact → (average : Int) < set.fallLevel → set.fallConfirm ≤ (low : Int) → exec (.sampleArrival r) s = .next
        ((v.recordOpened .fall set.fallConfirm.toNat none).monitorAt .falling 0 s.mon.settle).departureSignals.departureWakes)
      ∧ (¬impact → (average : Int) < set.fallLevel → (low : Int) < set.fallConfirm →
        exec (.sampleArrival r) s = .next (v.monitorAt .calm low s.mon.settle))
      ∧ (¬impact → set.fallLevel ≤ (average : Int) →
        exec (.sampleArrival r) s = .next (v.monitorAt .calm 0 s.mon.settle)))
    ∧ (s.mon.state = .falling → stale ≠ 64 →
      (impact → exec (.sampleArrival r) s = .next
        ((v.openRecChanged fun k => { strike (lasted 1 k) with kind := .drop }).monitorAt .struck s.mon.lowRun s.mon.settle))
      ∧ (¬impact → set.fallExit ≤ (average : Int) → exec (.sampleArrival r) s = .next
        ((v.openRecChanged (lasted 1)).monitorAt .settling 0 0))
      ∧ (¬impact → (average : Int) < set.fallExit →
        exec (.sampleArrival r) s = .next (v.openRecChanged (lasted 1))))
    ∧ (s.mon.state = .struck → stale ≠ 64 →
      (impact → exec (.sampleArrival r) s = .next (v.openRecChanged hit))
      ∧ (¬impact → exec (.sampleArrival r) s = .next (v.monitorAt .settling 0 0)))
    ∧ (s.mon.state = .settling → stale ≠ 64 →
      let low := if (average : Int) < set.fallLevel then low else 0
      let rest := if set.restLow ≤ (average : Int) ∧ (average : Int) ≤ set.restHigh then rest else 0
      (impact → exec (.sampleArrival r) s = .next
        ((v.openRecChanged fun k => { strike k with kind := if k.kind = .fall then .drop else k.kind }).monitorAt .struck 0 0))
      ∧ (¬impact → set.fallConfirm ≤ (low : Int) → exec (.sampleArrival r) s = .next
        ((v.openRecChanged fun k =>
          { lasted set.fallConfirm.toNat k with kind := if k.kind = .knock then .drop else k.kind }).monitorAt .falling 0 0))
      ∧ (¬impact → (low : Int) < set.fallConfirm → set.settleCount ≤ (rest : Int) →
        exec (.sampleArrival r) s = .next (v.openRecClosed.monitorAt .calm 0 0).calmSignals)
      ∧ (¬impact → (low : Int) < set.fallConfirm → (rest : Int) < set.settleCount →
        exec (.sampleArrival r) s = .next (v.monitorAt .settling low rest)))
    ∧ (stale = 64 →
      (s.mon.state = .calm → exec (.sampleArrival r) s = .next blinded.departureWakes)
      ∧ (s.mon.state = .falling ∨ s.mon.state = .struck ∨ s.mon.state = .settling →
        exec (.sampleArrival r) s = .next blinded))
    ∧ (s.mon.state = .blind →
      (fresh = true → exec (.sampleArrival r) s = .next
        ((v.openRecChanged fun k => { k with duration := min s.fe.staleCount 65535 }).openRecClosed.monitorAt .calm 0 0).resumeAll)
      ∧ (fresh = false → exec (.sampleArrival r) s = .next v))

/-- What the monitor's signals and the gauge's entry into CRITICAL do to the slots, and nothing else. A departure from CALM: an
ISSUED or SUSPENDED operation, or a RELEASE on its way, not exposed yet is marked exposed to the open record at its offset in ms,
which counts its module once (R72, R73); an erase at work or on its way gets a SUSPEND request (R74, R93); a queued RELEASE with
cause SETTLED or BLIND is withdrawn and its slot waits again (R75); then the holds are judged, and each in WAITING beyond HOLD_LIMIT
is released with cause HOLD_LIMIT, HOLD_BREAKS grown and HOLD_BREAK raised (R86, R89). Into CALM: the waiting slots are released,
cause SETTLED, oldest hold first, and the parked erases resumed (R76, R96). Into BLIND: the waiting slots and those queued as SETTLED
are released, cause BLIND, and the parked erases resumed (R77). Into CRITICAL: of the slots that wait or are queued, programs are
released, cause CRITICAL, and erases close REFUSED with their request withdrawn; each grows HOLD_BREAKS (R91). A departure wakes a
dozing part and sets the idle time to 0 (R78, R191). The module order of exposures, SUSPEND and RESUME requests, that the holds
are judged at the end of the departure, and that a closed erase keeps its suspend flag, are the model's choices (log 17, log 18,
log 26). -/
def Obligations.MonitorSignalsReachTheSlots : Prop :=
  ∀ s : State,
    let ms := s.now / 1000
    let isIn : ModuleId → SlotState → SlotStep → Bool := fun k st step =>
      decide ((s.slotLive k).state = st) && decide ((s.slotLive k).step = some step)
    let isErase : ModuleId → Bool := fun k => decide ((s.slotRec k).kind = some .erase)
    let stepped : SlotStep → ModuleId → SlotLive := fun step k => { s.slotLive k with step := some step }
    let parked := ModuleId.all.filter fun k => isIn k .suspended .parked
    (∀ n, s.mon.openRec = some n →
      let marked := ModuleId.all.filter fun k =>
        decide ((s.slotRec k).exposure = none)
          && (decide ((s.slotLive k).state = .issued) || decide ((s.slotLive k).state = .suspended) || isIn k .held .releasing)
      let counted := marked.filter fun k => decide (k ∉ s.mon.exposedCounted)
      let erases := ModuleId.all.filter fun k =>
        isErase k && (isIn k .issued .busy || isIn k .held .releasing || isIn k .suspended .resuming)
      let back := ModuleId.all.filter fun k =>
        isIn k .held .releaseQueued && (decide (s.queuedCause k = some .settled) || decide (s.queuedCause k = some .blind))
      s.departureSignals =
        State.judgeHolds
          { s with
            ret :=
              { s.ret with
                slots := perModule fun k =>
                  if k ∈ marked then
                    { s.slotRec k with
                      exposure := some
                        { record := n
                          offset :=
                            if (s.slotLive k).state = .held then 0
                            else min (ms - (s.slotLive k).issueMs.getD ms) 65535 } }
                  else s.slotRec k
                shocks := s.ret.shocks.map fun r =>
                  if r.number = n ∧ r.isOpen = true then { r with exposed := r.exposed + counted.length } else r }
            mon := { s.mon with exposedCounted := s.mon.exposedCounted ++ counted }
            arb :=
              { s.arb with
                queue := (requested s.arb.queue erases .suspend none).filter fun e => decide (e.module ∉ back) }
            slots := perModule fun k =>
              if k ∈ erases then
                { s.slotLive k with
                  suspendFlag := true
                  step :=
                    if (s.slotLive k).state = .issued then some .suspending
                    else if (s.slotLive k).state = .suspended ∧ s.isQueued k .resume = true then some .rechecking
                    else (s.slotLive k).step }
              else if k ∈ back then stepped .waiting k else s.slotLive k })
    ∧ (let late := s.releaseQueue.filter fun k =>
        isIn k .held .waiting
          && decide (s.ret.settings.holdLimit < ((ms - (s.slotRec k).holdStart.getD ms : Nat) : Int))
      s.judgeHolds =
        { s with
          arb := { s.arb with queue := requested s.arb.queue late .release (some .holdLimit) }
          slots := perModule fun k => if k ∈ late then stepped .releaseQueued k else s.slotLive k
          counters :=
            { s.counters with
              holdBreaks := grown s.counters.holdBreaks (ModuleId.all.filter fun k => decide (k ∈ late)).length }
          causes := if late = [] then s.causes else s.causes ||| 32 })
    ∧ (let waiting := s.releaseQueue.filter fun k => isIn k .held .waiting
      s.calmSignals =
        { s with
          arb :=
            { s.arb with
              queue := requested (requested s.arb.queue waiting .release (some .settled)) parked .resume none }
          slots := perModule fun k =>
            if k ∈ waiting then stepped .releaseQueued k else if k ∈ parked then stepped .resuming k else s.slotLive k })
    ∧ (let woken := s.releaseQueue.filter fun k =>
        isIn k .held .waiting || (isIn k .held .releaseQueued && decide (s.queuedCause k = some .settled))
      s.blindSignals =
        { s with
          arb :=
            { s.arb with
              queue := requested (requested s.arb.queue woken .release (some .blind)) parked .resume none }
          slots := perModule fun k =>
            if k ∈ woken then stepped .releaseQueued k else if k ∈ parked then stepped .resuming k else s.slotLive k })
    ∧ s.resumeAll =
        { s with
          arb := { s.arb with queue := requested s.arb.queue parked .resume none }
          slots := perModule fun k => if k ∈ parked then stepped .resuming k else s.slotLive k }
    ∧ (let broken : ModuleId → Bool := fun k => isIn k .held .waiting || isIn k .held .releaseQueued
      let programs := s.releaseQueue.filter fun k => broken k && !isErase k
      let erases := ModuleId.all.filter fun k => decide (k ∈ s.releaseQueue) && broken k && isErase k
      s.criticalEntry =
        { s with
          ret :=
            { s.ret with
              slots := perModule fun k =>
                if k ∈ erases then
                  { s.slotRec k with
                    state := .free, cause := some .critical, last := some .refused, busyMs := (s.slotLive k).busyMs ms }
                else s.slotRec k }
          slots := perModule fun k =>
            if k ∈ erases then
              { s.slotLive k with state := .free, step := none, issueMs := none, timerFrom := none, keptReturn := false }
            else if k ∈ programs then stepped .releaseQueued k
            else s.slotLive k
          arb :=
            { s.arb with
              queue := (requested s.arb.queue programs .release (some .critical)).filter fun e => decide (e.module ∉ erases) }
          releaseQueue := s.releaseQueue.filter fun k => decide (k ∉ erases)
          relay :=
            { s.relay with
              readyFail := perModule fun k => if k ∈ erases then true else s.relay.readyFail.get k }
          counters :=
            { s.counters with
              holdBreaks := grown s.counters.holdBreaks (programs.length + erases.length)
              refusedErases := grown s.counters.refusedErases erases.length }
          causes := if programs = [] ∧ erases = [] then s.causes else s.causes ||| 32 })
    ∧ s.departureWakes =
        (if s.doze.dozing then
          { s with
            doze := { dozing := false, idleFromMs := ms }
            fe :=
              { s.fe with
                pollPeriod := 625
                nextPoll := s.now + 625
                window := List.replicate s.fe.window.length (s.fe.sum / s.fe.window.length)
                sum := s.fe.sum / s.fe.window.length * s.fe.window.length }
            gauge := { s.gauge with currentPeriod := 10000, nextCurrent := s.now + 10000 } }
        else { s with doze := { s.doze with idleFromMs := ms } })

/-- A reply is fresh exactly where its status byte is not 0xFF, its three axis words, high byte first and signed, lie in −2048 to
2047 and its new-data bit is set (R43, R46). Each corrected value of a fresh sample is the floor of (raw times gain plus 512)
divided by 1024, plus the offset, clamped to −2048 to 2047 (R49); the sample is saturated exactly where a raw value is −2048 or 2047
or a value before its clamp lies outside that range, and a stale one never is (R48, R50). The L1 magnitude of a fresh sample is the
sum of the three absolute corrected values, each in 0 to 2048; it lies in 0 to 6144 and is 6144 only where all three are −2048. A
stale sample carries the last sample with its L1 (R52). -/
def Obligations.MagnitudeLiesInItsRange : Prop :=
  ∀ (t : Settings) (r : SensorReply) (f : FrontEnd),
    let c := correctedSample t r
    c.l1 = c.cx.natAbs + c.cy.natAbs + c.cz.natAbs
    ∧ c.cx.natAbs ≤ 2048 ∧ c.cy.natAbs ≤ 2048 ∧ c.cz.natAbs ≤ 2048 ∧ c.l1 ≤ 6144
    ∧ (c.l1 = 6144 ↔ c.cx = -2048 ∧ c.cy = -2048 ∧ c.cz = -2048)
    ∧ (f.takeFresh t r).2.sample = c ∧ f.takeStale.2.sample = f.last
    ∧ (let word : Byte → Byte → Int := fun high low =>
        if high.toNat < 128 then high.toNat * 256 + low.toNat else high.toNat * 256 + low.toNat - 65536
      let x := word r.xHigh r.xLow
      let y := word r.yHigh r.yLow
      let z := word r.zHigh r.zLow
      let inRange : Int → Prop := fun v => -2048 ≤ v ∧ v ≤ 2047
      let before : Int → Int → Int → Int := fun raw gain offset => Int.fdiv (raw * gain + 512) 1024 + offset
      let atEnd : Int → Int → Int → Prop := fun raw gain offset =>
        raw = -2048 ∨ raw = 2047 ∨ ¬inRange (before raw gain offset)
      let clamped : Int → Int := fun v => max (-2048) (min 2047 v)
      (replyFresh r = true ↔ r.status ≠ 0xFF ∧ inRange x ∧ inRange y ∧ inRange z ∧ r.status.getLsbD 7 = true)
      ∧ c.cx = clamped (before x t.accGainX t.accOffsetX) ∧ c.cy = clamped (before y t.accGainY t.accOffsetY)
      ∧ c.cz = clamped (before z t.accGainZ t.accOffsetZ)
      ∧ (replySaturated t r = true ↔
        atEnd x t.accGainX t.accOffsetX ∨ atEnd y t.accGainY t.accOffsetY ∨ atEnd z t.accGainZ t.accOffsetZ)
      ∧ (f.takeFresh t r).2.saturated = replySaturated t r ∧ f.takeStale.2.saturated = false)

/-! ### Battery, stamp and doze -/

/-- The events of the schedules at their due times, each of which sets its next due time one period later. CURRENT_SAMPLE_DUE and
VOLTAGE_SAMPLE_DUE start a conversion; Q_COPY_DUE and STAMP_COPY_DUE write the retained copies of the live values; STAMP_SECOND
adds 1 to the stamp, wrapping from 4294967295 to 0 (R106, R114, R192, R193). That the time base runs on to the due time is the
model's choice (log 3). -/
def Obligations.SchedulesRunAtTheirDueTimes : Prop :=
  ∀ s : State, s.phase = .running →
    let t : Nat → State := fun due => { s with ports := ⟨[], none, []⟩, now := due }
    (s.now ≤ s.gauge.nextCurrent → exec .currentSampleDue s = .next
      { t s.gauge.nextCurrent with
        gauge := { s.gauge with currentRunning := true, nextCurrent := s.gauge.nextCurrent + s.gauge.currentPeriod } })
    ∧ (s.now ≤ s.gauge.nextVoltage → exec .voltageSampleDue s = .next
      { t s.gauge.nextVoltage with
        gauge := { s.gauge with voltageRunning := true, nextVoltage := s.gauge.nextVoltage + 100000 } })
    ∧ (s.now ≤ s.gauge.nextCopy → exec .qCopyDue s = .next
      { t s.gauge.nextCopy with
        gauge := { s.gauge with nextCopy := s.gauge.nextCopy + 60000000 }
        ret :=
          { s.ret with
            chargeCopy := { q := s.gauge.q, underrun := s.gauge.underrun, unknown := s.gauge.unknown } } })
    ∧ (s.now ≤ s.clock.nextCopy → exec .stampCopyDue s = .next
      { t s.clock.nextCopy with
        clock := { s.clock with nextCopy := s.clock.nextCopy + 60000000 }
        ret := { s.ret with stampCopy := s.clock.stamp } })
    ∧ (s.now ≤ s.clock.nextSecond → s.clock.stamp ≤ 4294967295 → exec .stampSecond s = .next
      { t s.clock.nextSecond with
        clock :=
          { s.clock with
            stamp := if s.clock.stamp = 4294967295 then 0 else s.clock.stamp + 1
            nextSecond := s.clock.nextSecond + 1000000 } })

/-- CURRENT_SAMPLE_ARRIVAL: the calibrated current times 10 ms, or 100 ms in DOZE, is taken from Q, which is clamped to 0–FULL,
and a discharge beyond Q sets the underrun flag; the charge condition is entered below RESERVE and left from 1 % of FULL above it
up, and where that changes the level, which it does only out of CRITICAL, BATTERY is raised; nothing else changes (R108, R111,
R112, R118, R120). -/
def Obligations.CurrentSampleIsCounted : Prop :=
  ∀ (s : State) (raw : BitVec 16), s.phase = .running → s.gauge.currentRunning = true →
    let cal := max (-32768) (min 32767 ((raw.toInt * s.ret.settings.curGain + 8192) / 16384 + s.ret.settings.curOffset))
    let quantum := if s.doze.dozing then cal * 10 else cal
    let full := s.ret.settings.capacity.toNat * 3600000
    let reserve := s.ret.settings.reserve.toNat * 3600000
    let q := (max 0 (min (full : Int) ((s.gauge.q : Int) - quantum))).toNat
    let low := if s.gauge.chargeLow then decide (q < reserve + full / 100) else decide (q < reserve)
    exec (.currentSampleArrival raw) s = .next
      { s with
        ports := ⟨[], none, []⟩
        gauge :=
          { s.gauge with
            currentRunning := false
            iCal := cal
            q := q
            underrun := s.gauge.underrun || decide (0 < quantum ∧ (s.gauge.q : Int) < quantum)
            chargeLow := low }
        causes := if s.gauge.voltageLow = false ∧ low ≠ s.gauge.chargeLow then s.causes ||| 8 else s.causes }

/-- VOLTAGE_SAMPLE_ARRIVAL: the sample joins the window as the newest and the oldest leaves; the voltage condition is entered below
CRIT_MV and left from CRIT_MV plus 100 up, by the average; where it changes, the level does, BATTERY is raised, and an entry into
CRITICAL reaches the slots as R91 says (`State.criticalEntry`, given by MonitorSignalsReachTheSlots); nothing else changes (R117,
R118, R120). -/
def Obligations.VoltageSampleEntersTheWindow : Prop :=
  ∀ (s : State) (mv : BitVec 16) (oldest : Nat) (rest : List Nat), s.phase = .running →
    s.gauge.voltageRunning = true → s.gauge.vWindow = oldest :: rest →
    let sum := s.gauge.vSum - oldest + mv.toNat
    let average := sum / 16
    let low :=
      if s.gauge.voltageLow then decide ((average : Int) < s.ret.settings.critMv + 100)
      else decide ((average : Int) < s.ret.settings.critMv)
    let t : State :=
      { s with
        ports := ⟨[], none, []⟩
        gauge :=
          { s.gauge with voltageRunning := false, vWindow := rest ++ [mv.toNat], vSum := sum, voltageLow := low } }
    (low = s.gauge.voltageLow → exec (.voltageSampleArrival mv) s = .next t)
    ∧ (low = false → s.gauge.voltageLow = true →
      exec (.voltageSampleArrival mv) s = .next { t with causes := s.causes ||| 8 })
    ∧ (low = true → s.gauge.voltageLow = false →
      exec (.voltageSampleArrival mv) s = .next ({ t with causes := s.causes ||| 8 } : State).criticalEntry)

/-- DOZE_ENTRY of a quiet part whose idle time has reached DOZE_DELAY: DOZE with idle time 0, the DOZE periods from now, the
window refilled with its average, and the retained copy of Q written (R45, R56, R107, R114, R189). A part whose idle time has not
reached it, or that is not quiet, stays ACTIVE. Quiet is an ACTIVE part in CALM with no slot live, no sequence open or processed, no
read, reset or residual busy period, no insert queued or running and WAIT released (R189). -/
def Obligations.DozeEntrySlowsThePart : Prop :=
  (∀ s : State,
    (s.quiet = true ↔
      s.doze.dozing = false ∧ s.relay.seq = none ∧ s.svc.processing = none ∧ s.mon.state = .calm
        ∧ (∀ k, (s.slotLive k).state = .free ∧ s.relay.readBusy.get k = none ∧ s.relay.resetBusy.get k = none
          ∧ s.relay.residual.get k = none)
        ∧ s.arb.queue = [] ∧ s.arb.running = none ∧ s.wait = false))
  ∧ ∀ s : State, s.phase = .running →
    let idle := min (s.now / 1000 - s.doze.idleFromMs) 65535
    (s.quiet = true → s.ret.settings.dozeDelay ≤ (idle : Int) → exec .dozeEntry s = .next
      { s with
        ports := ⟨[], none, []⟩
        doze := { dozing := true, idleFromMs := s.now / 1000 }
        fe :=
          { s.fe with
            pollPeriod := 10000
            nextPoll := s.now + 10000
            window := List.replicate s.fe.window.length (s.fe.sum / s.fe.window.length)
            sum := s.fe.sum / s.fe.window.length * s.fe.window.length }
        gauge := { s.gauge with currentPeriod := 100000, nextCurrent := s.now + 100000 }
        ret :=
          { s.ret with
            chargeCopy := { q := s.gauge.q, underrun := s.gauge.underrun, unknown := s.gauge.unknown } } })
    ∧ (s.quiet = false ∨ (idle : Int) < s.ret.settings.dozeDelay →
      exec .dozeEntry s = .next { s with ports := ⟨[], none, []⟩ })

/-! ### Power loss and reset -/

/-- POWER_LOSS, and RESET_ASSERT of a part with supply, in whatever phase: retained memory stays whole, every pending cause is
cleared, what is open, queued or running is abandoned (`State.Abandoned`), ATTN# is released, and WAIT is asserted by a reset; a warm
reset keeps the live Q, its flags and the stamp, and one that comes during a reset starts it again as a warm reset (R130 to R132).
Without supply RESET_ASSERT moves the pin alone, and a POWER_ON with RESET# asserted waits at step 2 (R132). That a second
RESET_ASSERT does not occur, and that volatile state stands at its reset value while the part is stopped, are the model's choices
(log 4, log 25). -/
def Obligations.ResetAbandonsWhatIsInProgress : Prop :=
  ∀ s : State,
    (∃ t, exec .powerLoss s = .next t ∧ t.phase = .unpowered ∧ t.ret = s.ret ∧ t.resetPin = s.resetPin ∧ t.ce = s.ce
      ∧ t.Abandoned)
    ∧ (s.phase ≠ .unpowered → s.resetPin = false →
      ∃ t, exec .resetAssert s = .next t ∧ t.phase = .inReset .warm ∧ t.resetPin = true ∧ t.ret = s.ret ∧ t.ce = s.ce
        ∧ t.Abandoned ∧ t.wait = true
        ∧ t.gauge.q = s.gauge.q ∧ t.gauge.underrun = s.gauge.underrun ∧ t.gauge.unknown = s.gauge.unknown
        ∧ t.clock.stamp = s.clock.stamp)
    ∧ (s.resetPin = true → exec .resetAssert s = .next { s with ports := ⟨[], none, []⟩ })
    ∧ (s.phase = .unpowered → s.resetPin = false →
      exec .resetAssert s = .next { s with ports := ⟨[], none, []⟩, resetPin := true })
    ∧ (s.phase = .unpowered → s.resetPin = true → ∀ inp,
      exec (.powerOn inp) s = .next { s with ports := ⟨[], none, []⟩, phase := .inReset .powerOn })

/-- POWER_ON of a part whose retained memory is blank, with RESET# released, and RESET_RELEASE of one that waits in a reset, warm or
not, with its memory blank, are the first power-on ever: every slot FREE with no last outcome, both lists empty, the epoch 0, the
write sequence 1, Q half of FULL and unknown, every setting at its default, the straps as sampled, and no cause pending (R141, R187,
R194). That the whole reset is one command, and that a blank memory makes a warm reset the first power-on ever too, are the model's
readings (log 24). -/
def Obligations.FirstPowerOnSetsUpMemory : Prop :=
  ∀ (s : State) (inp : ResetInputs) (c : Instr), s.ret.marker = false →
    (c = .powerOn inp ∧ s.phase = .unpowered ∧ s.resetPin = false
      ∨ c = .resetRelease inp ∧ (∃ kind, s.phase = .inReset kind) ∧ s.resetPin = true) →
    ∃ t, exec c s = .next t ∧ t.phase = .running ∧ t.ret.marker = true
      ∧ (∀ k, (t.slotRec k).state = .free ∧ (t.slotRec k).last = none ∧ (t.slotRec k).busyMs = 0
          ∧ (t.slotLive k).state = .free)
      ∧ t.ret.suspects = [] ∧ t.ret.overflow = 0 ∧ t.ret.shocks = [] ∧ t.ret.overwritten = 0 ∧ t.ret.epoch = 0
      ∧ t.ret.writeSeq = 1 ∧ t.gauge.q = 10800000000 ∧ t.gauge.unknown = true ∧ t.gauge.underrun = false
      ∧ t.ret.settings = Settings.defaults ∧ t.straps = { svcSel := inp.svcSel, modCnt := inp.modCnt }
      ∧ t.ports.moduleCycles = [] ∧ t.causes = 0 ∧ t.clock.stamp = 0

/-- POWER_ON with RESET# released, and RESET_RELEASE of a part that waits in a reset, leave no slot live in retained memory or out of
it: a record found HELD closes LOST, one found ISSUED or SUSPENDED closes TORN, and a FREE one is unchanged; every other field of a
closed record stays, the insert and release queues are empty, and RESTART_LOSS alone can be pending (R133, R136). Each closed slot
hands its LOST or TORN entry, in module order, with the stamp that the reset restores (R134, R144). One DROPOUT record, closed,
counts them, unless an interrupted one was found or none was live; every open record is closed as it stands (R59, R135, R137, R157,
R159). Each closed slot's present module is sent a MODULE RESET, and its residual busy period of 50 ms runs, as does that of a
module whose line shows busy (R9, R138). Every module is OK with override NONE, the service answer is clear, and the counters are 0
(R9, R139). After either reset, the first power-on ever included, the straps are those sampled, the voltage window holds the reset
sample in its 16 places, both conditions are judged afresh on it and on Q, and every other volatile value is that of R139's table,
each schedule with its first due time one period on (R44, R59, R106, R114, R117, R119, R132, R187, R192, R193). That the whole reset
is one command is the model's reading of the table of steps (log 24). -/
def Obligations.ReconciliationClosesEverySlot : Prop :=
  (∀ (s : State) (inp : ResetInputs) (c : Instr) (isWarm : Bool), s.ret.marker = true →
    (c = .powerOn inp ∧ s.phase = .unpowered ∧ s.resetPin = false ∧ isWarm = false
      ∨ c = .resetRelease inp ∧ s.phase = .inReset (if isWarm then .warm else .powerOn) ∧ s.resetPin = true) →
    let found := ModuleId.all.filter fun k => decide ((s.slotRec k).state ≠ .free)
    let held := found.filter fun k => decide ((s.slotRec k).state = .held)
    let interrupted := s.ret.shocks.any fun r => r.isOpen && decide (r.kind = .dropout)
    let stamp := if isWarm then s.clock.stamp else s.ret.stampCopy
    let full := s.ret.settings.capacity.toNat * 3600000
    let q := if isWarm then s.gauge.q else min s.ret.chargeCopy.q full
    let list := found.foldl
      (fun l k =>
        let a := addSuspect l.1 l.2 ((s.slotRec k).entry k (if (s.slotRec k).state = .held then .lost else .torn) stamp)
        (a.1, a.2.1)) (s.ret.suspects, s.ret.overflow)
    let closed := s.ret.shocks.map fun r => { r with isOpen := false }
    let isFull := decide (32 ≤ s.ret.shocks.length)
    let dropout : ShockRec :=
      { number := s.ret.epoch + 1, kind := .dropout, stamp := stamp, duration := 0, peak := none, saturated := false
        strikes := 0, charge := q * 1000 / full, exposed := found.length - held.length, held := held.length
        isOpen := false }
    ∃ t, exec c s = .next t ∧ t.phase = .running
      ∧ (∀ k, (t.slotLive k).state = .free
          ∧ t.slotRec k =
            (match (s.slotRec k).state with
            | .free => s.slotRec k
            | .held => { s.slotRec k with state := .free, last := some .lost }
            | .issued => { s.slotRec k with state := .free, last := some .torn }
            | .suspended => { s.slotRec k with state := .free, last := some .torn }))
      ∧ t.arb.queue = [] ∧ t.releaseQueue = []
      ∧ t.causes =
        (if ModuleId.all.any (fun k => decide ((s.slotRec k).state ≠ .free))
            || s.ret.shocks.any (fun r => r.isOpen && decide (r.kind = .dropout)) then 2 else 0)
      ∧ t.ret.settings = s.ret.settings ∧ t.ret.writeSeq = s.ret.writeSeq
      ∧ t.clock.stamp = stamp ∧ t.gauge.q = q
      ∧ t.ret.suspects = list.1 ∧ t.ret.overflow = list.2
      ∧ (found = [] ∨ interrupted = true →
        t.ret.shocks = closed ∧ t.ret.epoch = s.ret.epoch ∧ t.ret.overwritten = s.ret.overwritten)
      ∧ (found ≠ [] → interrupted = false → s.ret.epoch < 4294967295 →
        t.ret.shocks = (if isFull then closed.tail else closed) ++ [dropout] ∧ t.ret.epoch = s.ret.epoch + 1
        ∧ t.ret.overwritten = if isFull then min (s.ret.overwritten + 1) 65535 else s.ret.overwritten)
      ∧ (found ≠ [] → interrupted = false → 4294967295 ≤ s.ret.epoch →
        t.ret.shocks = closed ∧ t.ret.epoch = s.ret.epoch ∧ t.ret.overwritten = min (s.ret.overwritten + 1) 65535)
      ∧ t.ports.moduleCycles =
        (found.filter fun k => decide (k.val ≤ inp.modCnt.toNat)).map (fun k => .code k 0x0F)
      ∧ (∀ k, t.relay.residual.get k =
        if k.val ≤ inp.modCnt.toNat ∧ ((s.slotRec k).state ≠ .free ∨ inp.rbBusy.get k = true) then some 50000 else none)
      ∧ (∀ k, t.relay.stuck.get k = false ∧ t.relay.readyFail.get k = false) ∧ t.relay.serviceAnswer = false
      ∧ t.counters = ⟨0, 0, 0, 0, 0, 0, 0, 0, 0, 0, 0, 0, 0⟩)
  ∧ ∀ (s : State) (inp : ResetInputs) (c : Instr),
    (c = .powerOn inp ∧ s.phase = .unpowered ∧ s.resetPin = false
      ∨ c = .resetRelease inp ∧ (∃ kind, s.phase = .inReset kind) ∧ s.resetPin = true) →
    ∃ t, exec c s = .next t ∧ t.phase = .running ∧ t.now = 0
      ∧ t.straps = { svcSel := inp.svcSel, modCnt := inp.modCnt } ∧ t.ce = s.ce
      -- the gauge and the timebase
      ∧ t.gauge.vWindow = List.replicate 16 inp.sample.toNat ∧ t.gauge.vSum = 16 * inp.sample.toNat
      ∧ t.gauge.voltageLow = decide ((inp.sample.toNat : Int) < t.ret.settings.critMv)
      ∧ t.gauge.chargeLow = decide (t.gauge.q < t.ret.settings.reserve.toNat * 3600000)
      ∧ t.gauge.iCal = 0 ∧ t.gauge.currentRunning = false ∧ t.gauge.voltageRunning = false
      ∧ t.gauge.currentPeriod = 10000 ∧ t.gauge.nextCurrent = 10000 ∧ t.gauge.nextVoltage = 100000
      ∧ t.gauge.nextCopy = 60000000 ∧ t.clock.nextSecond = 1000000 ∧ t.clock.nextCopy = 60000000
      ∧ t.doze = { dozing := false, idleFromMs := 0 }
      -- the front end and the monitor
      ∧ t.fe.pollPeriod = 625 ∧ t.fe.nextPoll = 625 ∧ t.fe.transfer = none
      ∧ t.mon =
        { state := .calm, lowRun := 0, settle := 0, openRec := none, heldCounted := [], exposedCounted := [] }
      -- the relay, the slots, the tag engine and the service handler
      ∧ t.relay.seq = none ∧ t.relay.nested = none ∧ t.arb.queue = [] ∧ t.arb.running = none ∧ t.arb.wakeWait = false
      ∧ (∀ k, (t.slotLive k).state = .free ∧ (t.slotLive k).step = none ∧ (t.slotLive k).issueMs = none)
      ∧ t.releaseQueue = [] ∧ t.tag.program = none ∧ t.tag.read = none
      ∧ t.svc.frame = none ∧ t.svc.processing = none ∧ t.svc.snapshot = none ∧ t.svc.answer = none
      ∧ t.svc.answerCount = 0 ∧ t.relay.serviceAnswer = false
      ∧ t.counters = ⟨0, 0, 0, 0, 0, 0, 0, 0, 0, 0, 0, 0, 0⟩

/-- At power-on and at warm reset the window holds 128 in every place, WINDOW of them as retained memory has it, the sum is 128
times that and the average 128, the last sample is 0, 0, 128 with L1 128, the stale count and the STALE counter are 0, the poll
period is 625 µs and the port is IDLE; the settings of a memory that holds any are kept (R54). -/
def Obligations.ResetPrefillsTheWindow : Prop :=
  ∀ (s : State) (inp : ResetInputs) (c : Instr),
    (c = .powerOn inp ∧ s.phase = .unpowered ∧ s.resetPin = false
      ∨ c = .resetRelease inp ∧ (∃ kind, s.phase = .inReset kind) ∧ s.resetPin = true) →
    ∃ t, exec c s = .next t
      ∧ t.fe.window = List.replicate t.ret.settings.window.toNat 128 ∧ t.fe.sum = 128 * t.ret.settings.window.toNat
      ∧ (s.ret.settings.wf = true → t.fe.average = 128)
      ∧ t.fe.last = { cx := 0, cy := 0, cz := 128, l1 := 128 } ∧ t.fe.staleCount = 0 ∧ t.counters.stale = 0
      ∧ t.fe.pollPeriod = 625 ∧ t.fe.transfer = none
      ∧ (s.ret.marker = true → t.ret.settings = s.ret.settings)

/-! ### The service block -/

/-- SET_SETTING of an accepted frame stores the value given, brought into the setting's range, WINDOW rounded up to an allowed
size, with a FALL_EXIT or REST_HIGH it overtakes raised past it; the answer is CLAMPED where the value stored differs from the one
given. The setting's change takes its effects (`State.settingsStored`: R55, R115, R119, R120, R122, R186). A setting that is only
read when used changes nothing else, a change of WINDOW only refills the window with its average, and no setting changes the lists,
the stamp, the write sequence or a record's past (R168, R183 to R185). The 23 settings have the ids, ranges and defaults of R181, no
other id names one, and a table lies inside its ranges exactly where each value does, WINDOW being 8, 16 or 32 (R182, R184). That the
command is executed by its own event before the processing ends is the model's choice (log 28). -/
def Obligations.SetSettingStoresTheValue : Prop :=
  (∀ t : Settings,
    let rows : List (Nat × SettingId × Int × Int × Int × Int) :=
      [(1, .window, t.window, 8, 32, 16), (2, .fallLevel, t.fallLevel, 0, 255, 38),
        (3, .fallExit, t.fallExit, t.fallLevel + 1, 511, 77), (4, .fallConfirm, t.fallConfirm, 1, 255, 24),
        (5, .impactLevel, t.impactLevel, 256, 6144, 640), (6, .restLow, t.restLow, 0, 1023, 96),
        (7, .restHigh, t.restHigh, t.restLow + 1, 2047, 232), (8, .settleCount, t.settleCount, 16, 4095, 160),
        (9, .holdLimit, t.holdLimit, 100, 5000, 1200), (10, .accGainX, t.accGainX, 0, 2047, 1024),
        (11, .accGainY, t.accGainY, 0, 2047, 1024), (12, .accGainZ, t.accGainZ, 0, 2047, 1024),
        (13, .accOffsetX, t.accOffsetX, -256, 255, 0), (14, .accOffsetY, t.accOffsetY, -256, 255, 0),
        (15, .accOffsetZ, t.accOffsetZ, -256, 255, 0), (16, .capacity, t.capacity, 100, 40000, 6000),
        (17, .reserve, t.reserve, 0, 5000, 300), (18, .critMv, t.critMv, 2800, 3600, 3100),
        (19, .curGain, t.curGain, 0, 32767, 16384), (20, .curOffset, t.curOffset, -512, 511, 0),
        (21, .attnEnable, t.attnEnable, 0, 255, 255), (22, .dozeDelay, t.dozeDelay, 100, 60000, 2000),
        (23, .counterClearOnRead, t.counterClearOnRead, 0, 1, 0)]
    (∀ id i v lo hi d, (id, i, v, lo, hi, d) ∈ rows →
      SettingId.ofId id = some i ∧ t.get i = v ∧ i.range t = (lo, hi) ∧ Settings.defaults.get i = d)
    ∧ (∀ i j v, (t.set i v).get j = if i = j then v else t.get j)
    ∧ (∀ n, n = 0 ∨ 23 < n → SettingId.ofId n = none)
    ∧ (t.wf = true ↔
      t.window ∈ [8, 16, 32] ∧ ∀ id i v lo hi d, (id, i, v, lo, hi, d) ∈ rows → lo ≤ v ∧ v ≤ hi))
  ∧ ∀ (s : State) (bytes : List Byte) (i : SettingId), s.phase = .running → s.Carries bytes .setSetting →
    SettingId.ofId (place bytes 4).toNat = some i →
    let given := argInt32 bytes 5
    let lo := (i.range s.ret.settings).1
    let hi := (i.range s.ret.settings).2
    let v := if i = .window then (if given ≤ 8 then 8 else if given ≤ 16 then 16 else 32)
      else if given < lo then lo else if hi < given then hi else given
    let done : CmdDone := { result := if v = given then .accepted else .clamped, applied := v }
    let set := s.ret.settings.set i v
    let new : Settings :=
      if i = .fallLevel then { set with fallExit := max s.ret.settings.fallExit (v + 1) }
      else if i = .restLow then { set with restHigh := max s.ret.settings.restHigh (v + 1) }
      else set
    let t : State :=
      { s with
        ports := ⟨[], none, []⟩
        ret := { s.ret with settings := new }
        svc := { s.svc with processing := some (.frame bytes (some done)) } }
    exec .setSetting s = .next { s.settingsStored new with ports := ⟨[], none, []⟩, svc := t.svc }
    ∧ (i ∉ [.window, .holdLimit, .capacity, .reserve, .critMv] → exec .setSetting s = .next t)
    ∧ (i = .window → v ≠ s.ret.settings.window → exec .setSetting s = .next
      { t with
        fe :=
          { s.fe with
            window := List.replicate v.toNat (s.fe.sum / s.fe.window.length)
            sum := s.fe.sum / s.fe.window.length * v.toNat } })
    ∧ ∃ u, exec .setSetting s = .next u ∧ u.ret.settings = new ∧ u.svc = t.svc ∧ u.clock = s.clock
      ∧ u.ret.writeSeq = s.ret.writeSeq ∧ u.ret.shocks = s.ret.shocks ∧ u.ret.epoch = s.ret.epoch ∧ u.mon = s.mon
      ∧ u.ret.suspects = s.ret.suspects

/-- MODIFY_ATTENTION of an accepted frame: each bit of the enable mask whose mask bit is 1 takes the value's bit, the mask after
the change is the applied value, and nothing else changes; ATTN# is then low exactly where a pending cause has its bit 1 in the
new mask (R169, R180). That the command is executed by its own event before the processing ends is the model's choice (log 28). -/
def Obligations.ModifyAttentionMasksTheEnable : Prop :=
  ∀ (s : State) (bytes : List Byte), s.phase = .running → s.Carries bytes .modifyAttention →
    ∃ (new : BitVec 8) (t : State),
      (∀ i, i < 8 → new.getLsbD i =
        if (place bytes 4).getLsbD i then (place bytes 5).getLsbD i else s.ret.settings.enableMask.getLsbD i)
      ∧ exec .modifyAttention s = .next t
      ∧ t =
        { s with
          ports := ⟨[], none, []⟩
          ret := { s.ret with settings := { s.ret.settings with attnEnable := new.toNat } }
          svc :=
            { s.svc with
              processing := some (.frame bytes (some { result := .accepted, applied := (new.toNat : Int) })) } }
      ∧ (t.attnLow = true ↔ ∃ i, i < 8 ∧ s.causes.getLsbD i = true ∧ new.getLsbD i = true)

/-- SET_STAMP of an accepted frame: the stamp takes the value (R170), its second restarts (R192), the retained copy is written
(R193), and the answer is ACCEPTED with the stamp set. That the command is executed by its own event, its result waiting in the
processing for the answer, is the model's choice (log 28). -/
def Obligations.SetStampTakesTheValue : Prop :=
  ∀ (s : State) (bytes : List Byte), s.phase = .running → s.Carries bytes .setStamp →
    let v := (place bytes 4).toNat * 16777216 + (place bytes 5).toNat * 65536 + (place bytes 6).toNat * 256
      + (place bytes 7).toNat
    exec .setStamp s = .next
      { s with
        ports := ⟨[], none, []⟩
        clock := { s.clock with stamp := v, nextSecond := s.now + 1000000 }
        ret := { s.ret with stampCopy := v }
        svc :=
          { s.svc with processing := some (.frame bytes (some { result := .accepted, applied := (v : Int) })) } }

/-- SET_CHARGE and MARK_FULL of an accepted frame: Q is the charge given, clamped to 0–CAPACITY, or FULL; both flags clear and
the retained copy holds the three; the charge condition is judged afresh, and where that changes the level, BATTERY is raised;
nothing else changes (R114, R119 to R121, R171). That the command is executed by its own event, its result waiting in the
processing for the answer, is the model's choice (log 28). -/
def Obligations.ChargeCommandsSetQ : Prop :=
  ∀ (s : State) (bytes : List Byte), s.phase = .running → s.ret.settings.wf = true →
    let given := argInt32 bytes 4
    let mah := if given < 0 then 0 else if s.ret.settings.capacity < given then s.ret.settings.capacity else given
    let after : Nat → CmdDone → State := fun q done =>
      let low := decide (q < s.ret.settings.reserve.toNat * 3600000)
      { s with
        ports := ⟨[], none, []⟩
        gauge := { s.gauge with q := q, underrun := false, unknown := false, chargeLow := low }
        ret := { s.ret with chargeCopy := { q := q, underrun := false, unknown := false } }
        causes := if s.gauge.voltageLow = false ∧ low ≠ s.gauge.chargeLow then s.causes ||| 8 else s.causes
        svc := { s.svc with processing := some (.frame bytes (some done)) } }
    (s.Carries bytes .setCharge → exec .setCharge s = .next
      (after (mah.toNat * 3600000) { result := if mah = given then .accepted else .clamped, applied := mah }))
    ∧ (s.Carries bytes .markFull → exec .markFull s = .next
      (after (s.ret.settings.capacity.toNat * 3600000) { result := .accepted, applied := s.ret.settings.capacity }))

/-- RELEASE_SUSPECT of an accepted frame: ALL empties the list and its overflow count and gives the number removed; ONE takes out
the entry of its key and gives 1, or changes nothing and gives NOT_FOUND with 0 (R152, R172). CLEAR_SHOCK_LOG of one with number n:
the closed records numbered up to n leave, the open one and the rest stay, the overwritten count is 0, the epoch stands, and the
applied value is the number removed (R160, R172). CLEAR_COUNTERS sets the thirteen page 7 counters to 0 and nothing else (R173). The
selector is place 4, the key places 5 to 8 with page 0xFF for a block entry, and a four-byte argument is read high byte first,
signed in two's complement where it is signed (R163, R172, R195). That the command is executed by its own event, its result waiting
in the processing for the answer, is the model's choice (log 28). -/
def Obligations.ClearCommandsRemoveWhatTheyName : Prop :=
  (∀ f : List Byte,
    let p : Nat → Nat := fun i => (f.getD i 0xFF).toNat
    (frameSelector f = some .all ↔ p 4 = 2)
    ∧ (∀ key, frameSelector f = some (.one key) ↔
      p 4 = 1 ∧ p 5 = key.module.val ∧ p 6 * 256 + p 7 = key.block.toNat
        ∧ p 8 = (match key.page with | some page => page.toNat | none => 255))
    ∧ ∀ i, arg32 f i = p i * 16777216 + p (i + 1) * 65536 + p (i + 2) * 256 + p (i + 3)
      ∧ argInt32 f i = if arg32 f i < 2147483648 then (arg32 f i : Int) else (arg32 f i : Int) - 4294967296)
  ∧ ∀ (s : State) (bytes : List Byte), s.phase = .running →
    let gone : ShockRec → Bool := fun r => !r.isOpen && decide (r.number ≤ arg32 bytes 4)
    let t : CmdDone → State := fun done =>
      { s with
        ports := ⟨[], none, []⟩
        svc := { s.svc with processing := some (.frame bytes (some done)) } }
    let accepted : Nat → State := fun applied => t { result := .accepted, applied := (applied : Int) }
    (s.Carries bytes .releaseSuspect →
      (frameSelector bytes = some .all → exec .releaseSuspect s = .next
        { accepted s.ret.suspects.length with ret := { s.ret with suspects := [], overflow := 0 } })
      ∧ (∀ key, frameSelector bytes = some (.one key) →
        ((∃ e ∈ s.ret.suspects, e.key = key) → exec .releaseSuspect s = .next
          { accepted 1 with
            ret := { s.ret with suspects := s.ret.suspects.filter fun e => decide (e.key ≠ key) } })
        ∧ ((∀ e ∈ s.ret.suspects, e.key ≠ key) → exec .releaseSuspect s = .next
          (t { result := .notFound, applied := 0 }))))
    ∧ (s.Carries bytes .clearShockLog → exec .clearShockLog s = .next
      { accepted (s.ret.shocks.filter gone).length with
        ret := { s.ret with shocks := s.ret.shocks.filter fun r => !gone r, overwritten := 0 } })
    ∧ (s.Carries bytes .clearCounters → exec .clearCounters s = .next
      { accepted 0 with
        counters :=
          { empty := 0, untagged := 0, misplaced := 0, mismatch := 0, matched := 0, skipped := 0, protocol := 0,
            timeout := 0, refusedPrograms := 0, refusedErases := 0, holds := 0, holdBreaks := 0, stale := 0 } })

/-- RELEASE_HOLDS of an accepted frame: every slot held in WAITING or RELEASE_QUEUED gets a RELEASE with cause FORCED, oldest hold
first, at the tail of the insert queue or in the place of its queued one, and is in RELEASE_QUEUED; the applied value counts those
that waited or were queued for another cause, a slot queued as FORCED already not being counted by the model's reading of R173
(log 20); no counter or attention cause changes; with none held nothing changes and it is 0 (R86, R90, R173). That the command is
executed by its own event, its result waiting in the processing for the answer, is the model's choice (log 28). -/
def Obligations.ReleaseHoldsForcesTheHeldSlot : Prop :=
  ∀ (s : State) (bytes : List Byte), s.phase = .running → s.Carries bytes .releaseHolds →
    let waits : ModuleId → Bool := fun k =>
      decide ((s.slotLive k).state = .held) && decide ((s.slotLive k).step = some .waiting)
    let queued : ModuleId → Bool := fun k =>
      decide ((s.slotLive k).state = .held) && decide ((s.slotLive k).step = some .releaseQueued)
    let forced := s.releaseQueue.filter fun k => waits k || queued k
    let applied := (ModuleId.all.filter fun k =>
      decide (k ∈ s.releaseQueue) && (waits k || (queued k && decide (s.queuedCause k ≠ some .forced)))).length
    exec .releaseHolds s = .next
      { s with
        ports := ⟨[], none, []⟩
        arb := { s.arb with queue := requested s.arb.queue forced .release (some .forced) }
        slots := perModule fun k =>
          if k ∈ forced then { s.slotLive k with step := some .releaseQueued } else s.slotLive k
        svc :=
          { s.svc with
            processing := some (.frame bytes (some { result := .accepted, applied := (applied : Int) })) } }

/-- RESTORE_DEFAULTS of an accepted frame: every setting takes its default, written out in SetSettingStoresTheValue, with the
effects of those that changed (`State.settingsStored`: the window refilled, the holds judged, Q clamped, the conditions judged
afresh and the level handed on: R55, R115, R119, R120, R122, R186), and the applied value is the number that changed. The write
sequence, the epoch, both lists, the stamp and the flags of Q stay; with no slot held so do the slots, their records and the
counters (R174). That the command is executed by its own event, its result waiting in the processing for the answer, is the model's
choice (log 28). -/
def Obligations.RestoreDefaultsStoresTheDefaults : Prop :=
  ∀ (s : State) (bytes : List Byte), s.phase = .running → s.Carries bytes .restoreDefaults →
    let done : CmdDone :=
      { result := .accepted
        applied :=
          ((SettingId.all.countP fun i => decide (s.ret.settings.get i ≠ Settings.defaults.get i) : Nat) : Int) }
    let svc : Service := { s.svc with processing := some (.frame bytes (some done)) }
    exec .restoreDefaults s = .next
      { s.settingsStored Settings.defaults with ports := ⟨[], none, []⟩, svc := svc }
    ∧ ∃ t, exec .restoreDefaults s = .next t ∧ t.ret.settings = Settings.defaults ∧ t.svc = svc
      ∧ t.ret.writeSeq = s.ret.writeSeq ∧ t.ret.epoch = s.ret.epoch ∧ t.ret.suspects = s.ret.suspects
      ∧ t.ret.shocks = s.ret.shocks ∧ t.clock = s.clock ∧ t.gauge.underrun = s.gauge.underrun
      ∧ t.gauge.unknown = s.gauge.unknown ∧ (s.gauge.q ≤ 21600000000 → t.gauge.q = s.gauge.q) ∧ t.mon = s.mon
      ∧ (s.releaseQueue = [] →
        t.ret.slots = s.ret.slots ∧ t.slots = s.slots ∧ t.counters = s.counters)

/-- PROGRAM_CLOSE of a command frame hands the captured frame to the handler and ends the sequence: RB0# shows busy for at most 2 ms
(R18, R164, R166). SERVICE_PROCESSING_END: an executed frame is answered with its frame number, code, result and value, the answer
count grows and wraps at 65536, and the service answer is set; a report page only ends its processing (R18, R166). A frame's checks
are, in this order, its marker, its CRC-16 over places 0 to 15, its code from 0x01 to 0x0A and its arguments, those of SET SETTING and
RELEASE SUSPECT; the first that fails gives MALFORMED, of the code UNKNOWN (R163, R165, R168, R172). That the command was executed by
its own event before, and that the CE# pins are not looked at by the close code, are the model's choices (log 28, log 36). -/
def Obligations.ProcessingEndGivesTheAnswer : Prop :=
  (∀ f : List Byte,
    let p : Nat → Nat := fun i => (f.getD i 0xFF).toNat
    let isMarked : Prop := p 0 = 0xA7 ∧ p 1 = 0x3C
    let isWhole : Prop := (crc16 (f.take 16)).toNat = p 16 * 256 + p 17
    let isTaken : CmdCode → Prop := fun c =>
      (c = .setSetting → 1 ≤ p 4 ∧ p 4 ≤ 23)
        ∧ (c = .releaseSuspect →
          p 4 = 2 ∨ p 4 = 1 ∧ p 5 ≤ 3 ∧ p 6 * 256 + p 7 ≤ 2047 ∧ (p 8 ≤ 127 ∨ p 8 = 255))
    (∀ i, (place f i).toNat = p i)
    ∧ (¬(isMarked ∧ isWhole) → checkFrame f = .error .malformed)
    ∧ (isMarked → isWhole →
      (p 2 = 0 ∨ 10 < p 2 → checkFrame f = .error .unknown)
      ∧ ∀ n c, (n, c) ∈ [(1, CmdCode.setSetting), (2, .modifyAttention), (3, .setStamp), (4, .setCharge), (5, .markFull),
          (6, .releaseSuspect), (7, .clearShockLog), (8, .releaseHolds), (9, .clearCounters), (10, .restoreDefaults)] →
        p 2 = n → (isTaken c → checkFrame f = .ok c) ∧ (¬isTaken c → checkFrame f = .error .malformed)))
  ∧ ∀ s : State, s.phase = .running →
    (∀ bytes d, s.svc.processing = some (.frame bytes (some d)) → exec .serviceProcessingEnd s = .next
      { s with
        ports := ⟨[], none, []⟩
        svc :=
          { s.svc with
            processing := none
            answer := some
              { frameNumber := place bytes 3, code := place bytes 2, result := d.result, applied := some d.applied }
            answerCount := (s.svc.answerCount + 1) % 65536 }
        relay := { s.relay with serviceAnswer := true } })
    ∧ (∀ bytes e, s.svc.processing = some (.frame bytes none) → checkFrame bytes = .error e →
      exec .serviceProcessingEnd s = .next
      { s with
        ports := ⟨[], none, []⟩
        svc :=
          { s.svc with
            processing := none
            answer := some { frameNumber := place bytes 3, code := place bytes 2, result := e, applied := none }
            answerCount := (s.svc.answerCount + 1) % 65536 }
        relay := { s.relay with serviceAnswer := true } })
    ∧ (∀ p, s.svc.processing = some (.report p) → exec .serviceProcessingEnd s = .next
      { s with ports := ⟨[], none, []⟩, svc := { s.svc with processing := none } })
    ∧ (∀ q f, s.InSequence q → q.kind = .program → q.handling = .svcFrame → q.closeTaken = false → s.svc.frame = some f →
      let t : State :=
        { s with
          ports := ⟨[], none, []⟩
          svc :=
            { s.svc with
              frame := none, processing := some (.frame f.bytes none), processingBy := s.now + 2000 }
          relay := { s.relay with seq := none, nested := none, stray := false }
          doze := { s.doze with idleFromMs := s.now / 1000 } }
      exec .programClose s = .next t ∧ t.rbShowsBusy .m0 = true)

/-- REPORT_PAGE_1 to REPORT_PAGE_7, the close code of the open service read of that page: the snapshot holds the page's content as
it stands, its processing runs at most 50 µs, page 2 clears the pending causes and page 7 the counters while COUNTER_CLEAR_ON_READ
is 1; the other pages have no side effect (R18, R175, R176). The content, byte by byte from the marker 0xA7, 0x3C and the page
number, is that of R199 with the codes of R195 and a value beyond its field shown at the top (R200); a place beyond the last item of
a list reads 0xFF, as does a column beyond the content. The free values of pages 4 to 7, that the close code and its page are one
event, and that the CE# pins are not looked at, are the model's choices (log 7, log 21, log 36). -/
def Obligations.ReportPageTakesItsSnapshot : Prop :=
  (∀ (s : State) (q : Seq) (p : BitVec 7) (column : Nat) (c : Instr), s.phase = .running → s.InSequence q →
    q.kind = .read → q.handling = .svcReport p column → q.closeTaken = false →
    (c, p) ∈ [(Instr.reportPage1, (1 : BitVec 7)), (.reportPage2, 2), (.reportPage3, 3), (.reportPage4, 4),
      (.reportPage5, 5), (.reportPage6, 6), (.reportPage7, 7)] →
    exec c s = .next
      { s with
        ports := ⟨[], none, []⟩
        relay := { s.relay with seq := some { q with closeTaken := true } }
        svc :=
          { s.svc with
            snapshot := some
              { page := p
                content := (reportContent
                  { s with
                    ports := ⟨[], none, []⟩
                    relay := { s.relay with seq := some { q with closeTaken := true } } } p).1 }
            processing := some (.report p)
            processingBy := s.now + 50 }
        causes := if p = 2 then 0 else s.causes
        counters :=
          if p = 7 ∧ s.ret.settings.counterClearOnRead = 1 then Counters.zero else s.counters
        freeIndex := s.freeIndex + (if p = 4 then 3 else if 5 ≤ p.toNat then 1 else 0) })
  ∧ ∀ s : State,
    let read : BitVec 7 → Nat → Nat → Nat := fun p i n => ofBe (((reportContent s p).1.drop i).take n)
    let byte : BitVec 7 → Nat → Nat := fun p i => ((reportContent s p).1.getD i 0xFF).toNat
    let top8 : Nat → Nat := fun n => min n 255
    let top16 : Nat → Nat := fun n => min n 65535
    let top32 : Nat → Nat := fun n => min n 4294967295
    let signed32 : Int → Nat := fun v => (BitVec.ofInt 32 (max (-2147483648) (min 2147483647 v))).toNat
    let signed16 : Int → Nat := fun v => (BitVec.ofInt 16 (max (-32768) (min 32767 v))).toNat
    -- the encodings of R195
    ofBe [] = 0 ∧ (∀ bs b, ofBe (bs ++ [b]) = ofBe bs * 256 + b.toNat)
    ∧ ([.normal, .reserve, .critical] : List Level).map Level.code = [0, 1, 2]
    ∧ ([.calm, .falling, .struck, .settling, .blind] : List MonState).map MonState.code = [0, 1, 2, 3, 4]
    ∧ ([.free, .held, .issued, .suspended] : List SlotState).map SlotState.code = [0, 1, 2, 3]
    ∧ ([.waiting, .releaseQueued, .releasing, .busy, .suspending, .checking, .parked, .resuming, .rechecking] :
      List SlotStep).map SlotStep.code = [1, 2, 3, 4, 5, 6, 7, 8, 9]
    ∧ ([.program, .erase] : List OpKind).map OpKind.code = [1, 2]
    ∧ ([.settled, .holdLimit, .forced, .critical, .blind] : List ReleaseCause).map ReleaseCause.code = [1, 2, 3, 4, 5]
    ∧ ([.done, .failed, .timedOut, .refused, .withdrawn, .aborted, .torn, .lost] : List SlotOutcome).map SlotOutcome.code
      = [1, 2, 3, 4, 5, 6, 7, 8]
    ∧ ([.fall, .drop, .knock, .dropout, .blind] : List ShockKind).map ShockKind.code = [1, 2, 3, 4, 5]
    ∧ ([.x, .y, .z] : List Axis).map Axis.code = [0, 1, 2]
    ∧ ([.exposed, .aborted, .timedOut, .failed, .lost, .torn, .mismatch, .misplaced] : List Reason).map Reason.code
      = [1, 2, 3, 4, 5, 6, 7, 8]
    ∧ ([.isOpen, .damaged] : List Verdict).map Verdict.code = [0, 1]
    ∧ ([.statusCheck, .suspend, .resume, .release] : List InsertKind).map InsertKind.code = [1, 2, 3, 4]
    ∧ ([.accepted, .clamped, .malformed, .unknown, .notFound] : List CmdResult).map CmdResult.code = [0, 1, 2, 3, 4]
    ∧ (∀ p ∈ [(1 : BitVec 7), 2, 3, 4, 5, 6, 7], byte p 0 = 0xA7 ∧ byte p 1 = 0x3C ∧ byte p 2 = p.toNat)
    -- page 1, the answer
    ∧ (s.svc.answer = none →
      byte 1 3 = 255 ∧ byte 1 4 = 255 ∧ byte 1 5 = 255 ∧ byte 1 6 = 0 ∧ read 1 7 4 = 4294967295)
    ∧ (∀ a, s.svc.answer = some a →
      byte 1 3 = a.frameNumber.toNat ∧ byte 1 4 = a.code.toNat ∧ byte 1 5 = a.result.code
      ∧ (a.applied = none → byte 1 6 = 0 ∧ read 1 7 4 = 4294967295)
      ∧ (∀ v, a.applied = some v → byte 1 6 = 1 ∧ read 1 7 4 = signed32 v))
    ∧ read 1 11 2 = top16 s.svc.answerCount ∧ (reportContent s 1).1.length = 13
    -- page 2, the status summary
    ∧ byte 2 3 = s.causes.toNat ∧ byte 2 4 = s.ret.settings.enableMask.toNat ∧ byte 2 5 = s.mon.state.code
    ∧ byte 2 6 = s.gauge.level.code
    ∧ byte 2 7 = (if s.gauge.underrun then 1 else 0) + (if s.gauge.unknown then 2 else 0)
    ∧ read 2 8 2 = top16 (s.gauge.q * 1000 / (s.ret.settings.capacity.toNat * 3600000))
    ∧ read 2 10 2 = top16 (s.gauge.q / 3600000) ∧ read 2 12 2 = top16 (s.gauge.vSum / 16)
    ∧ read 2 14 2 = signed16 (s.gauge.iCal.tdiv 10)
    ∧ (∀ k : ModuleId, byte 2 (16 + k.val) = (s.slotLive k).state.code)
    ∧ byte 2 20 = top8 s.releaseQueue.length ∧ byte 2 21 = top8 s.ret.suspects.length
    ∧ byte 2 22 = top8 s.ret.overflow ∧ byte 2 23 = top8 s.ret.shocks.length ∧ read 2 24 4 = top32 s.ret.epoch
    ∧ read 2 28 2 = top16 s.ret.overwritten ∧ read 2 30 4 = top32 s.ret.writeSeq ∧ read 2 34 4 = top32 s.clock.stamp
    ∧ (∀ k : ModuleId, (byte 2 38).testBit k.val = decide (k.val ≤ s.straps.modCnt.toNat ∧ s.relay.stuck.get k = true))
    ∧ byte 2 39 = s.straps.svcSel.toNat + 4 * s.straps.modCnt.toNat ∧ (reportContent s 2).1.length = 40
    -- page 3, the shock log: 32 places of 24 bytes
    ∧ byte 3 3 = top8 s.ret.shocks.length ∧ (reportContent s 3).1.length = 4 + 24 * s.ret.shocks.length
    ∧ (∀ i r, s.ret.shocks[i]? = some r →
      let at_ := 4 + 24 * i
      read 3 at_ 4 = top32 r.number ∧ byte 3 (at_ + 4) = r.kind.code
      ∧ byte 3 (at_ + 5) = (if r.isOpen then 1 else 0) ∧ read 3 (at_ + 6) 4 = top32 r.stamp
      ∧ read 3 (at_ + 10) 2 = top16 r.duration
      ∧ (r.peak = none → read 3 (at_ + 12) 2 = 65535 ∧ byte 3 (at_ + 14) = 255)
      ∧ (∀ p, r.peak = some p → read 3 (at_ + 12) 2 = top16 p.l1 ∧ byte 3 (at_ + 14) = p.axis.code)
      ∧ byte 3 (at_ + 15) = (if r.saturated then 1 else 0) ∧ byte 3 (at_ + 16) = top8 r.strikes
      ∧ read 3 (at_ + 17) 2 = top16 r.charge ∧ byte 3 (at_ + 19) = top8 r.exposed ∧ byte 3 (at_ + 20) = top8 r.held
      ∧ read 3 (at_ + 21) 3 = 0xFFFFFF)
    -- page 4, the suspect list: 48 places of 20 bytes
    ∧ byte 4 3 = top8 s.ret.suspects.length ∧ byte 4 4 = top8 s.ret.overflow
    ∧ (reportContent s 4).1.length = 8 + 20 * s.ret.suspects.length
    ∧ (∀ i e, s.ret.suspects[i]? = some e →
      let at_ := 8 + 20 * i
      byte 4 at_ = e.key.module.val ∧ read 4 (at_ + 1) 2 = e.key.block.toNat
      ∧ byte 4 (at_ + 3) = (match e.key.page with | some p => p.toNat | none => 255)
      ∧ byte 4 (at_ + 4) = e.reason.code ∧ byte 4 (at_ + 5) = e.verdict.code
      ∧ read 4 (at_ + 6) 4 = top32 (e.writeSeq.getD 0) ∧ read 4 (at_ + 10) 4 = top32 (e.shock.getD 0)
      ∧ read 4 (at_ + 14) 4 = top32 e.stamp ∧ read 4 (at_ + 18) 2 = 65535)
    -- page 5, the slots and queues: four places of 40 bytes, the release queue, the insert queue
    ∧ (∀ k : ModuleId,
      let r := s.slotRec k
      let l := s.slotLive k
      let at_ := 4 + 40 * k.val
      byte 5 at_ = l.state.code ∧ byte 5 (at_ + 1) = (match l.step with | some x => x.code | none => 0)
      ∧ byte 5 (at_ + 2) = (match r.kind with | some x => x.code | none => 0)
      ∧ read 5 (at_ + 3) 2 = (match r.block with | some x => x.toNat | none => 65535)
      ∧ byte 5 (at_ + 5) = (match r.page with | some x => x.toNat | none => 255)
      ∧ byte 5 (at_ + 6) = (if r.tagged then 1 else 0) ∧ read 5 (at_ + 7) 4 = top32 (r.writeSeq.getD 0)
      ∧ byte 5 (at_ + 11) = (match r.level with | some x => x.code | none => 255)
      ∧ read 5 (at_ + 12) 4 = (match r.holdStart with | some x => x % 4294967296 | none => 4294967295)
      ∧ byte 5 (at_ + 16) = (match r.cause with | some x => x.code | none => 0)
      ∧ (r.exposure = none → read 5 (at_ + 17) 4 = 0 ∧ read 5 (at_ + 21) 2 = 65535)
      ∧ (∀ x, r.exposure = some x →
        read 5 (at_ + 17) 4 = top32 x.record ∧ read 5 (at_ + 21) 2 = top16 x.offset)
      ∧ read 5 (at_ + 23) 2 = top16 (if l.state = .free then r.busyMs else l.busyMs (s.now / 1000))
      ∧ byte 5 (at_ + 25) = (match r.last with | some x => x.code | none => 0)
      ∧ read 5 (at_ + 26) 4 = (match l.issueMs with | some x => x % 4294967296 | none => 4294967295)
      ∧ (∀ i, i < 10 → byte 5 (at_ + 30 + i) = 255))
    ∧ (s.releaseQueue.length ≤ 4 → s.arb.queue.length ≤ 4 →
      (reportContent s 5).1.length = 176
      ∧ (∀ i, i < 4 → byte 5 (164 + i) = (match s.releaseQueue[i]? with | some k => k.val | none => 255))
      ∧ (∀ i, i < 4 →
        byte 5 (168 + 2 * i) = (match s.arb.queue[i]? with | some e => e.module.val | none => 255)
        ∧ byte 5 (169 + 2 * i) =
          (match s.arb.queue[i]? with
          | some e => e.kind.code + 16 * (match e.cause with | some c => c.code | none => 0)
          | none => 255)))
    -- page 6, the settings; page 7, the counters
    ∧ (reportContent s 6).1.length = 96
    ∧ (∀ n i, SettingId.ofId n = some i → read 6 (4 * n) 4 = signed32 (s.ret.settings.get i))
    ∧ (reportContent s 7).1.length = 30
    ∧ (∀ i, i < 13 → read 7 (4 + 2 * i) 2 =
      top16 (([s.counters.empty, s.counters.untagged, s.counters.misplaced, s.counters.mismatch, s.counters.matched,
        s.counters.skipped, s.counters.protocol, s.counters.timeout, s.counters.refusedPrograms, s.counters.refusedErases,
        s.counters.holds, s.counters.holdBreaks, s.counters.stale] : List Nat).getD i 0))

end
end

