-- ==== Sys2Proof/Laws/Bytes.lean ====
section
/-! SUPPORT. Numbers read back from their bytes: latched columns and rows (R196) and the fields written high byte first (R195). -/

namespace Sys2Proof.Machine

/-- Two bytes joined are the number they spell. -/
theorem append_toNat {m n : Nat} (a : BitVec m) (b : BitVec n) : (a ++ b).toNat = a.toNat * 2 ^ n + b.toNat := by
  rw [BitVec.toNat_append, Nat.shiftLeft_eq, Nat.mul_comm, ← Nat.two_pow_add_eq_or_of_lt b.isLt, Nat.mul_comm]

/-- The column of two latched cycles, low byte first. -/
theorem columnOf_toNat (low high : Byte) : (columnOf low high).toNat = high.toNat * 256 + low.toNat :=
  append_toNat high low

/-- The row of three latched cycles, low byte first, with bits 23–18 ignored. -/
theorem rowOf_toNat (low mid high : Byte) :
    (rowOf low mid high).toNat = (high.toNat * 65536 + mid.toNat * 256 + low.toNat) % 2 ^ 18 := by
  have e : (high ++ mid ++ low : BitVec (8 + 8 + 8)).toNat = high.toNat * 65536 + mid.toNat * 256 + low.toNat := by
    rw [append_toNat, append_toNat]; omega
  exact (BitVec.toNat_setWidth 18 _).trans (congrArg (· % 2 ^ 18) e)

theorem rowPage_rowOf (low mid high : Byte) :
    rowPage (rowOf low mid high) = BitVec.ofNat 7 (high.toNat * 65536 + mid.toNat * 256 + low.toNat) := by
  apply BitVec.eq_of_toNat_eq
  simp only [rowPage, BitVec.extractLsb'_toNat, rowOf_toNat, BitVec.toNat_ofNat]
  omega

theorem rowBlock_rowOf (low mid high : Byte) :
    rowBlock (rowOf low mid high) = BitVec.ofNat 11 ((high.toNat * 65536 + mid.toNat * 256 + low.toNat) / 128) := by
  apply BitVec.eq_of_toNat_eq
  simp only [rowBlock, BitVec.extractLsb'_toNat, rowOf_toNat, BitVec.toNat_ofNat, Nat.shiftRight_eq_div_pow]
  omega

/-- A 16-bit field reads back the number it was given. -/
theorem ofBe_be16 {n : Nat} (h : n < 65536) : ofBe (be16 n) = n := by
  have h' : min n 65535 = n := by omega
  simp only [be16, ofBe, h', List.foldl, BitVec.toNat_ofNat]
  omega

/-- A 32-bit field reads back the number it was given. -/
theorem ofBe_be32 {n : Nat} (h : n < 4294967296) : ofBe (be32 n) = n := by
  have h' : min n 4294967295 = n := by omega
  simp only [be32, ofBe, h', List.foldl, BitVec.toNat_ofNat]
  omega

@[simp] theorem be16_length (n : Nat) : (be16 n).length = 2 := rfl

@[simp] theorem be32_length (n : Nat) : (be32 n).length = 4 := rfl

end Sys2Proof.Machine
end

