-- ==== Sys2Proof/Laws/State.lean ====
section
/-! SUPPORT. What each update of one part of the state leaves to every field and to every reading of the state, true by `rfl`. A
reading that an update can change has no lemma with it here. -/

namespace Sys2Proof.Machine

variable (s : State) (k : ModuleId)

/-! `onRet` -/

section

variable (f : Retained → Retained)

@[simp] theorem State.onRet_phase : (s.onRet f).phase = s.phase := rfl
@[simp] theorem State.onRet_resetPin : (s.onRet f).resetPin = s.resetPin := rfl
@[simp] theorem State.onRet_ce : (s.onRet f).ce = s.ce := rfl
@[simp] theorem State.onRet_now : (s.onRet f).now = s.now := rfl
@[simp] theorem State.onRet_straps : (s.onRet f).straps = s.straps := rfl
@[simp] theorem State.onRet_ret : (s.onRet f).ret = f s.ret := rfl
@[simp] theorem State.onRet_relay : (s.onRet f).relay = s.relay := rfl
@[simp] theorem State.onRet_arb : (s.onRet f).arb = s.arb := rfl
@[simp] theorem State.onRet_svc : (s.onRet f).svc = s.svc := rfl
@[simp] theorem State.onRet_tag : (s.onRet f).tag = s.tag := rfl
@[simp] theorem State.onRet_fe : (s.onRet f).fe = s.fe := rfl
@[simp] theorem State.onRet_mon : (s.onRet f).mon = s.mon := rfl
@[simp] theorem State.onRet_slots : (s.onRet f).slots = s.slots := rfl
@[simp] theorem State.onRet_releaseQueue : (s.onRet f).releaseQueue = s.releaseQueue := rfl
@[simp] theorem State.onRet_gauge : (s.onRet f).gauge = s.gauge := rfl
@[simp] theorem State.onRet_counters : (s.onRet f).counters = s.counters := rfl
@[simp] theorem State.onRet_causes : (s.onRet f).causes = s.causes := rfl
@[simp] theorem State.onRet_doze : (s.onRet f).doze = s.doze := rfl
@[simp] theorem State.onRet_clock : (s.onRet f).clock = s.clock := rfl
@[simp] theorem State.onRet_ports : (s.onRet f).ports = s.ports := rfl
@[simp] theorem State.onRet_freeIndex : (s.onRet f).freeIndex = s.freeIndex := rfl
@[simp] theorem State.onRet_pending : (s.onRet f).pending = s.pending := rfl
@[simp] theorem State.onRet_asserted : (s.onRet f).asserted = s.asserted := rfl
@[simp] theorem State.onRet_present : (s.onRet f).present k = s.present k := rfl
@[simp] theorem State.onRet_ms : (s.onRet f).ms = s.ms := rfl
@[simp] theorem State.onRet_slotLive : (s.onRet f).slotLive k = s.slotLive k := rfl
@[simp] theorem State.onRet_wait : (s.onRet f).wait = s.wait := rfl
@[simp] theorem State.onRet_checkPending : (s.onRet f).checkPending k = s.checkPending k := rfl
@[simp] theorem State.onRet_viewBusy : (s.onRet f).viewBusy k = s.viewBusy k := rfl
@[simp] theorem State.onRet_statusAnswer : (s.onRet f).statusAnswer k = s.statusAnswer k := rfl
@[simp] theorem State.onRet_idleMs : (s.onRet f).idleMs = s.idleMs := rfl

end

/-! `onRelay` -/

section

variable (f : Relay → Relay)

@[simp] theorem State.onRelay_phase : (s.onRelay f).phase = s.phase := rfl
@[simp] theorem State.onRelay_resetPin : (s.onRelay f).resetPin = s.resetPin := rfl
@[simp] theorem State.onRelay_ce : (s.onRelay f).ce = s.ce := rfl
@[simp] theorem State.onRelay_now : (s.onRelay f).now = s.now := rfl
@[simp] theorem State.onRelay_straps : (s.onRelay f).straps = s.straps := rfl
@[simp] theorem State.onRelay_ret : (s.onRelay f).ret = s.ret := rfl
@[simp] theorem State.onRelay_relay : (s.onRelay f).relay = f s.relay := rfl
@[simp] theorem State.onRelay_arb : (s.onRelay f).arb = s.arb := rfl
@[simp] theorem State.onRelay_svc : (s.onRelay f).svc = s.svc := rfl
@[simp] theorem State.onRelay_tag : (s.onRelay f).tag = s.tag := rfl
@[simp] theorem State.onRelay_fe : (s.onRelay f).fe = s.fe := rfl
@[simp] theorem State.onRelay_mon : (s.onRelay f).mon = s.mon := rfl
@[simp] theorem State.onRelay_slots : (s.onRelay f).slots = s.slots := rfl
@[simp] theorem State.onRelay_releaseQueue : (s.onRelay f).releaseQueue = s.releaseQueue := rfl
@[simp] theorem State.onRelay_gauge : (s.onRelay f).gauge = s.gauge := rfl
@[simp] theorem State.onRelay_counters : (s.onRelay f).counters = s.counters := rfl
@[simp] theorem State.onRelay_causes : (s.onRelay f).causes = s.causes := rfl
@[simp] theorem State.onRelay_doze : (s.onRelay f).doze = s.doze := rfl
@[simp] theorem State.onRelay_clock : (s.onRelay f).clock = s.clock := rfl
@[simp] theorem State.onRelay_ports : (s.onRelay f).ports = s.ports := rfl
@[simp] theorem State.onRelay_freeIndex : (s.onRelay f).freeIndex = s.freeIndex := rfl
@[simp] theorem State.onRelay_pending : (s.onRelay f).pending = s.pending := rfl
@[simp] theorem State.onRelay_asserted : (s.onRelay f).asserted = s.asserted := rfl
@[simp] theorem State.onRelay_present : (s.onRelay f).present k = s.present k := rfl
@[simp] theorem State.onRelay_ms : (s.onRelay f).ms = s.ms := rfl
@[simp] theorem State.onRelay_slotRec : (s.onRelay f).slotRec k = s.slotRec k := rfl
@[simp] theorem State.onRelay_slotLive : (s.onRelay f).slotLive k = s.slotLive k := rfl
@[simp] theorem State.onRelay_permille : (s.onRelay f).permille = s.permille := rfl
@[simp] theorem State.onRelay_wait : (s.onRelay f).wait = s.wait := rfl
@[simp] theorem State.onRelay_checkPending : (s.onRelay f).checkPending k = s.checkPending k := rfl
@[simp] theorem State.onRelay_attnLow : (s.onRelay f).attnLow = s.attnLow := rfl

end

/-! `onArb` -/

section

variable (f : Arbiter → Arbiter)

@[simp] theorem State.onArb_phase : (s.onArb f).phase = s.phase := rfl
@[simp] theorem State.onArb_resetPin : (s.onArb f).resetPin = s.resetPin := rfl
@[simp] theorem State.onArb_ce : (s.onArb f).ce = s.ce := rfl
@[simp] theorem State.onArb_now : (s.onArb f).now = s.now := rfl
@[simp] theorem State.onArb_straps : (s.onArb f).straps = s.straps := rfl
@[simp] theorem State.onArb_ret : (s.onArb f).ret = s.ret := rfl
@[simp] theorem State.onArb_relay : (s.onArb f).relay = s.relay := rfl
@[simp] theorem State.onArb_arb : (s.onArb f).arb = f s.arb := rfl
@[simp] theorem State.onArb_svc : (s.onArb f).svc = s.svc := rfl
@[simp] theorem State.onArb_tag : (s.onArb f).tag = s.tag := rfl
@[simp] theorem State.onArb_fe : (s.onArb f).fe = s.fe := rfl
@[simp] theorem State.onArb_mon : (s.onArb f).mon = s.mon := rfl
@[simp] theorem State.onArb_slots : (s.onArb f).slots = s.slots := rfl
@[simp] theorem State.onArb_releaseQueue : (s.onArb f).releaseQueue = s.releaseQueue := rfl
@[simp] theorem State.onArb_gauge : (s.onArb f).gauge = s.gauge := rfl
@[simp] theorem State.onArb_counters : (s.onArb f).counters = s.counters := rfl
@[simp] theorem State.onArb_causes : (s.onArb f).causes = s.causes := rfl
@[simp] theorem State.onArb_doze : (s.onArb f).doze = s.doze := rfl
@[simp] theorem State.onArb_clock : (s.onArb f).clock = s.clock := rfl
@[simp] theorem State.onArb_ports : (s.onArb f).ports = s.ports := rfl
@[simp] theorem State.onArb_freeIndex : (s.onArb f).freeIndex = s.freeIndex := rfl
@[simp] theorem State.onArb_pending : (s.onArb f).pending = s.pending := rfl
@[simp] theorem State.onArb_asserted : (s.onArb f).asserted = s.asserted := rfl
@[simp] theorem State.onArb_present : (s.onArb f).present k = s.present k := rfl
@[simp] theorem State.onArb_ms : (s.onArb f).ms = s.ms := rfl
@[simp] theorem State.onArb_slotRec : (s.onArb f).slotRec k = s.slotRec k := rfl
@[simp] theorem State.onArb_slotLive : (s.onArb f).slotLive k = s.slotLive k := rfl
@[simp] theorem State.onArb_permille : (s.onArb f).permille = s.permille := rfl
@[simp] theorem State.onArb_idleMs : (s.onArb f).idleMs = s.idleMs := rfl
@[simp] theorem State.onArb_attnLow : (s.onArb f).attnLow = s.attnLow := rfl

end

/-! `onSvc` -/

section

variable (f : Service → Service)

@[simp] theorem State.onSvc_phase : (s.onSvc f).phase = s.phase := rfl
@[simp] theorem State.onSvc_resetPin : (s.onSvc f).resetPin = s.resetPin := rfl
@[simp] theorem State.onSvc_ce : (s.onSvc f).ce = s.ce := rfl
@[simp] theorem State.onSvc_now : (s.onSvc f).now = s.now := rfl
@[simp] theorem State.onSvc_straps : (s.onSvc f).straps = s.straps := rfl
@[simp] theorem State.onSvc_ret : (s.onSvc f).ret = s.ret := rfl
@[simp] theorem State.onSvc_relay : (s.onSvc f).relay = s.relay := rfl
@[simp] theorem State.onSvc_arb : (s.onSvc f).arb = s.arb := rfl
@[simp] theorem State.onSvc_svc : (s.onSvc f).svc = f s.svc := rfl
@[simp] theorem State.onSvc_tag : (s.onSvc f).tag = s.tag := rfl
@[simp] theorem State.onSvc_fe : (s.onSvc f).fe = s.fe := rfl
@[simp] theorem State.onSvc_mon : (s.onSvc f).mon = s.mon := rfl
@[simp] theorem State.onSvc_slots : (s.onSvc f).slots = s.slots := rfl
@[simp] theorem State.onSvc_releaseQueue : (s.onSvc f).releaseQueue = s.releaseQueue := rfl
@[simp] theorem State.onSvc_gauge : (s.onSvc f).gauge = s.gauge := rfl
@[simp] theorem State.onSvc_counters : (s.onSvc f).counters = s.counters := rfl
@[simp] theorem State.onSvc_causes : (s.onSvc f).causes = s.causes := rfl
@[simp] theorem State.onSvc_doze : (s.onSvc f).doze = s.doze := rfl
@[simp] theorem State.onSvc_clock : (s.onSvc f).clock = s.clock := rfl
@[simp] theorem State.onSvc_ports : (s.onSvc f).ports = s.ports := rfl
@[simp] theorem State.onSvc_freeIndex : (s.onSvc f).freeIndex = s.freeIndex := rfl
@[simp] theorem State.onSvc_pending : (s.onSvc f).pending = s.pending := rfl
@[simp] theorem State.onSvc_asserted : (s.onSvc f).asserted = s.asserted := rfl
@[simp] theorem State.onSvc_present : (s.onSvc f).present k = s.present k := rfl
@[simp] theorem State.onSvc_ms : (s.onSvc f).ms = s.ms := rfl
@[simp] theorem State.onSvc_slotRec : (s.onSvc f).slotRec k = s.slotRec k := rfl
@[simp] theorem State.onSvc_slotLive : (s.onSvc f).slotLive k = s.slotLive k := rfl
@[simp] theorem State.onSvc_permille : (s.onSvc f).permille = s.permille := rfl
@[simp] theorem State.onSvc_wait : (s.onSvc f).wait = s.wait := rfl
@[simp] theorem State.onSvc_checkPending : (s.onSvc f).checkPending k = s.checkPending k := rfl
@[simp] theorem State.onSvc_idleMs : (s.onSvc f).idleMs = s.idleMs := rfl
@[simp] theorem State.onSvc_attnLow : (s.onSvc f).attnLow = s.attnLow := rfl

end

/-! `onTag` -/

section

variable (f : TagEngine → TagEngine)

@[simp] theorem State.onTag_phase : (s.onTag f).phase = s.phase := rfl
@[simp] theorem State.onTag_resetPin : (s.onTag f).resetPin = s.resetPin := rfl
@[simp] theorem State.onTag_ce : (s.onTag f).ce = s.ce := rfl
@[simp] theorem State.onTag_now : (s.onTag f).now = s.now := rfl
@[simp] theorem State.onTag_straps : (s.onTag f).straps = s.straps := rfl
@[simp] theorem State.onTag_ret : (s.onTag f).ret = s.ret := rfl
@[simp] theorem State.onTag_relay : (s.onTag f).relay = s.relay := rfl
@[simp] theorem State.onTag_arb : (s.onTag f).arb = s.arb := rfl
@[simp] theorem State.onTag_svc : (s.onTag f).svc = s.svc := rfl
@[simp] theorem State.onTag_tag : (s.onTag f).tag = f s.tag := rfl
@[simp] theorem State.onTag_fe : (s.onTag f).fe = s.fe := rfl
@[simp] theorem State.onTag_mon : (s.onTag f).mon = s.mon := rfl
@[simp] theorem State.onTag_slots : (s.onTag f).slots = s.slots := rfl
@[simp] theorem State.onTag_releaseQueue : (s.onTag f).releaseQueue = s.releaseQueue := rfl
@[simp] theorem State.onTag_gauge : (s.onTag f).gauge = s.gauge := rfl
@[simp] theorem State.onTag_counters : (s.onTag f).counters = s.counters := rfl
@[simp] theorem State.onTag_causes : (s.onTag f).causes = s.causes := rfl
@[simp] theorem State.onTag_doze : (s.onTag f).doze = s.doze := rfl
@[simp] theorem State.onTag_clock : (s.onTag f).clock = s.clock := rfl
@[simp] theorem State.onTag_ports : (s.onTag f).ports = s.ports := rfl
@[simp] theorem State.onTag_freeIndex : (s.onTag f).freeIndex = s.freeIndex := rfl
@[simp] theorem State.onTag_pending : (s.onTag f).pending = s.pending := rfl
@[simp] theorem State.onTag_asserted : (s.onTag f).asserted = s.asserted := rfl
@[simp] theorem State.onTag_present : (s.onTag f).present k = s.present k := rfl
@[simp] theorem State.onTag_ms : (s.onTag f).ms = s.ms := rfl
@[simp] theorem State.onTag_slotRec : (s.onTag f).slotRec k = s.slotRec k := rfl
@[simp] theorem State.onTag_slotLive : (s.onTag f).slotLive k = s.slotLive k := rfl
@[simp] theorem State.onTag_permille : (s.onTag f).permille = s.permille := rfl
@[simp] theorem State.onTag_wait : (s.onTag f).wait = s.wait := rfl
@[simp] theorem State.onTag_checkPending : (s.onTag f).checkPending k = s.checkPending k := rfl
@[simp] theorem State.onTag_viewBusy : (s.onTag f).viewBusy k = s.viewBusy k := rfl
@[simp] theorem State.onTag_statusAnswer : (s.onTag f).statusAnswer k = s.statusAnswer k := rfl
@[simp] theorem State.onTag_idleMs : (s.onTag f).idleMs = s.idleMs := rfl
@[simp] theorem State.onTag_attnLow : (s.onTag f).attnLow = s.attnLow := rfl

end

/-! `onFe` -/

section

variable (f : FrontEnd → FrontEnd)

@[simp] theorem State.onFe_phase : (s.onFe f).phase = s.phase := rfl
@[simp] theorem State.onFe_resetPin : (s.onFe f).resetPin = s.resetPin := rfl
@[simp] theorem State.onFe_ce : (s.onFe f).ce = s.ce := rfl
@[simp] theorem State.onFe_now : (s.onFe f).now = s.now := rfl
@[simp] theorem State.onFe_straps : (s.onFe f).straps = s.straps := rfl
@[simp] theorem State.onFe_ret : (s.onFe f).ret = s.ret := rfl
@[simp] theorem State.onFe_relay : (s.onFe f).relay = s.relay := rfl
@[simp] theorem State.onFe_arb : (s.onFe f).arb = s.arb := rfl
@[simp] theorem State.onFe_svc : (s.onFe f).svc = s.svc := rfl
@[simp] theorem State.onFe_tag : (s.onFe f).tag = s.tag := rfl
@[simp] theorem State.onFe_fe : (s.onFe f).fe = f s.fe := rfl
@[simp] theorem State.onFe_mon : (s.onFe f).mon = s.mon := rfl
@[simp] theorem State.onFe_slots : (s.onFe f).slots = s.slots := rfl
@[simp] theorem State.onFe_releaseQueue : (s.onFe f).releaseQueue = s.releaseQueue := rfl
@[simp] theorem State.onFe_gauge : (s.onFe f).gauge = s.gauge := rfl
@[simp] theorem State.onFe_counters : (s.onFe f).counters = s.counters := rfl
@[simp] theorem State.onFe_causes : (s.onFe f).causes = s.causes := rfl
@[simp] theorem State.onFe_doze : (s.onFe f).doze = s.doze := rfl
@[simp] theorem State.onFe_clock : (s.onFe f).clock = s.clock := rfl
@[simp] theorem State.onFe_ports : (s.onFe f).ports = s.ports := rfl
@[simp] theorem State.onFe_freeIndex : (s.onFe f).freeIndex = s.freeIndex := rfl
@[simp] theorem State.onFe_pending : (s.onFe f).pending = s.pending := rfl
@[simp] theorem State.onFe_asserted : (s.onFe f).asserted = s.asserted := rfl
@[simp] theorem State.onFe_present : (s.onFe f).present k = s.present k := rfl
@[simp] theorem State.onFe_ms : (s.onFe f).ms = s.ms := rfl
@[simp] theorem State.onFe_slotRec : (s.onFe f).slotRec k = s.slotRec k := rfl
@[simp] theorem State.onFe_slotLive : (s.onFe f).slotLive k = s.slotLive k := rfl
@[simp] theorem State.onFe_permille : (s.onFe f).permille = s.permille := rfl
@[simp] theorem State.onFe_wait : (s.onFe f).wait = s.wait := rfl
@[simp] theorem State.onFe_checkPending : (s.onFe f).checkPending k = s.checkPending k := rfl
@[simp] theorem State.onFe_viewBusy : (s.onFe f).viewBusy k = s.viewBusy k := rfl
@[simp] theorem State.onFe_statusAnswer : (s.onFe f).statusAnswer k = s.statusAnswer k := rfl
@[simp] theorem State.onFe_idleMs : (s.onFe f).idleMs = s.idleMs := rfl
@[simp] theorem State.onFe_attnLow : (s.onFe f).attnLow = s.attnLow := rfl

end

/-! `onMon` -/

section

variable (f : Monitor → Monitor)

@[simp] theorem State.onMon_phase : (s.onMon f).phase = s.phase := rfl
@[simp] theorem State.onMon_resetPin : (s.onMon f).resetPin = s.resetPin := rfl
@[simp] theorem State.onMon_ce : (s.onMon f).ce = s.ce := rfl
@[simp] theorem State.onMon_now : (s.onMon f).now = s.now := rfl
@[simp] theorem State.onMon_straps : (s.onMon f).straps = s.straps := rfl
@[simp] theorem State.onMon_ret : (s.onMon f).ret = s.ret := rfl
@[simp] theorem State.onMon_relay : (s.onMon f).relay = s.relay := rfl
@[simp] theorem State.onMon_arb : (s.onMon f).arb = s.arb := rfl
@[simp] theorem State.onMon_svc : (s.onMon f).svc = s.svc := rfl
@[simp] theorem State.onMon_tag : (s.onMon f).tag = s.tag := rfl
@[simp] theorem State.onMon_fe : (s.onMon f).fe = s.fe := rfl
@[simp] theorem State.onMon_mon : (s.onMon f).mon = f s.mon := rfl
@[simp] theorem State.onMon_slots : (s.onMon f).slots = s.slots := rfl
@[simp] theorem State.onMon_releaseQueue : (s.onMon f).releaseQueue = s.releaseQueue := rfl
@[simp] theorem State.onMon_gauge : (s.onMon f).gauge = s.gauge := rfl
@[simp] theorem State.onMon_counters : (s.onMon f).counters = s.counters := rfl
@[simp] theorem State.onMon_causes : (s.onMon f).causes = s.causes := rfl
@[simp] theorem State.onMon_doze : (s.onMon f).doze = s.doze := rfl
@[simp] theorem State.onMon_clock : (s.onMon f).clock = s.clock := rfl
@[simp] theorem State.onMon_ports : (s.onMon f).ports = s.ports := rfl
@[simp] theorem State.onMon_freeIndex : (s.onMon f).freeIndex = s.freeIndex := rfl
@[simp] theorem State.onMon_pending : (s.onMon f).pending = s.pending := rfl
@[simp] theorem State.onMon_asserted : (s.onMon f).asserted = s.asserted := rfl
@[simp] theorem State.onMon_present : (s.onMon f).present k = s.present k := rfl
@[simp] theorem State.onMon_ms : (s.onMon f).ms = s.ms := rfl
@[simp] theorem State.onMon_slotRec : (s.onMon f).slotRec k = s.slotRec k := rfl
@[simp] theorem State.onMon_slotLive : (s.onMon f).slotLive k = s.slotLive k := rfl
@[simp] theorem State.onMon_permille : (s.onMon f).permille = s.permille := rfl
@[simp] theorem State.onMon_wait : (s.onMon f).wait = s.wait := rfl
@[simp] theorem State.onMon_checkPending : (s.onMon f).checkPending k = s.checkPending k := rfl
@[simp] theorem State.onMon_viewBusy : (s.onMon f).viewBusy k = s.viewBusy k := rfl
@[simp] theorem State.onMon_statusAnswer : (s.onMon f).statusAnswer k = s.statusAnswer k := rfl
@[simp] theorem State.onMon_idleMs : (s.onMon f).idleMs = s.idleMs := rfl
@[simp] theorem State.onMon_attnLow : (s.onMon f).attnLow = s.attnLow := rfl

end

/-! `onSlots` -/

section

variable (f : PerModule SlotLive → PerModule SlotLive)

@[simp] theorem State.onSlots_phase : (s.onSlots f).phase = s.phase := rfl
@[simp] theorem State.onSlots_resetPin : (s.onSlots f).resetPin = s.resetPin := rfl
@[simp] theorem State.onSlots_ce : (s.onSlots f).ce = s.ce := rfl
@[simp] theorem State.onSlots_now : (s.onSlots f).now = s.now := rfl
@[simp] theorem State.onSlots_straps : (s.onSlots f).straps = s.straps := rfl
@[simp] theorem State.onSlots_ret : (s.onSlots f).ret = s.ret := rfl
@[simp] theorem State.onSlots_relay : (s.onSlots f).relay = s.relay := rfl
@[simp] theorem State.onSlots_arb : (s.onSlots f).arb = s.arb := rfl
@[simp] theorem State.onSlots_svc : (s.onSlots f).svc = s.svc := rfl
@[simp] theorem State.onSlots_tag : (s.onSlots f).tag = s.tag := rfl
@[simp] theorem State.onSlots_fe : (s.onSlots f).fe = s.fe := rfl
@[simp] theorem State.onSlots_mon : (s.onSlots f).mon = s.mon := rfl
@[simp] theorem State.onSlots_slots : (s.onSlots f).slots = f s.slots := rfl
@[simp] theorem State.onSlots_releaseQueue : (s.onSlots f).releaseQueue = s.releaseQueue := rfl
@[simp] theorem State.onSlots_gauge : (s.onSlots f).gauge = s.gauge := rfl
@[simp] theorem State.onSlots_counters : (s.onSlots f).counters = s.counters := rfl
@[simp] theorem State.onSlots_causes : (s.onSlots f).causes = s.causes := rfl
@[simp] theorem State.onSlots_doze : (s.onSlots f).doze = s.doze := rfl
@[simp] theorem State.onSlots_clock : (s.onSlots f).clock = s.clock := rfl
@[simp] theorem State.onSlots_ports : (s.onSlots f).ports = s.ports := rfl
@[simp] theorem State.onSlots_freeIndex : (s.onSlots f).freeIndex = s.freeIndex := rfl
@[simp] theorem State.onSlots_pending : (s.onSlots f).pending = s.pending := rfl
@[simp] theorem State.onSlots_asserted : (s.onSlots f).asserted = s.asserted := rfl
@[simp] theorem State.onSlots_present : (s.onSlots f).present k = s.present k := rfl
@[simp] theorem State.onSlots_ms : (s.onSlots f).ms = s.ms := rfl
@[simp] theorem State.onSlots_slotRec : (s.onSlots f).slotRec k = s.slotRec k := rfl
@[simp] theorem State.onSlots_permille : (s.onSlots f).permille = s.permille := rfl
@[simp] theorem State.onSlots_wait : (s.onSlots f).wait = s.wait := rfl
@[simp] theorem State.onSlots_checkPending : (s.onSlots f).checkPending k = s.checkPending k := rfl
@[simp] theorem State.onSlots_idleMs : (s.onSlots f).idleMs = s.idleMs := rfl
@[simp] theorem State.onSlots_attnLow : (s.onSlots f).attnLow = s.attnLow := rfl

end

/-! `onReleaseQueue` -/

section

variable (f : List ModuleId → List ModuleId)

@[simp] theorem State.onReleaseQueue_phase : (s.onReleaseQueue f).phase = s.phase := rfl
@[simp] theorem State.onReleaseQueue_resetPin : (s.onReleaseQueue f).resetPin = s.resetPin := rfl
@[simp] theorem State.onReleaseQueue_ce : (s.onReleaseQueue f).ce = s.ce := rfl
@[simp] theorem State.onReleaseQueue_now : (s.onReleaseQueue f).now = s.now := rfl
@[simp] theorem State.onReleaseQueue_straps : (s.onReleaseQueue f).straps = s.straps := rfl
@[simp] theorem State.onReleaseQueue_ret : (s.onReleaseQueue f).ret = s.ret := rfl
@[simp] theorem State.onReleaseQueue_relay : (s.onReleaseQueue f).relay = s.relay := rfl
@[simp] theorem State.onReleaseQueue_arb : (s.onReleaseQueue f).arb = s.arb := rfl
@[simp] theorem State.onReleaseQueue_svc : (s.onReleaseQueue f).svc = s.svc := rfl
@[simp] theorem State.onReleaseQueue_tag : (s.onReleaseQueue f).tag = s.tag := rfl
@[simp] theorem State.onReleaseQueue_fe : (s.onReleaseQueue f).fe = s.fe := rfl
@[simp] theorem State.onReleaseQueue_mon : (s.onReleaseQueue f).mon = s.mon := rfl
@[simp] theorem State.onReleaseQueue_slots : (s.onReleaseQueue f).slots = s.slots := rfl
@[simp] theorem State.onReleaseQueue_releaseQueue : (s.onReleaseQueue f).releaseQueue = f s.releaseQueue := rfl
@[simp] theorem State.onReleaseQueue_gauge : (s.onReleaseQueue f).gauge = s.gauge := rfl
@[simp] theorem State.onReleaseQueue_counters : (s.onReleaseQueue f).counters = s.counters := rfl
@[simp] theorem State.onReleaseQueue_causes : (s.onReleaseQueue f).causes = s.causes := rfl
@[simp] theorem State.onReleaseQueue_doze : (s.onReleaseQueue f).doze = s.doze := rfl
@[simp] theorem State.onReleaseQueue_clock : (s.onReleaseQueue f).clock = s.clock := rfl
@[simp] theorem State.onReleaseQueue_ports : (s.onReleaseQueue f).ports = s.ports := rfl
@[simp] theorem State.onReleaseQueue_freeIndex : (s.onReleaseQueue f).freeIndex = s.freeIndex := rfl
@[simp] theorem State.onReleaseQueue_pending : (s.onReleaseQueue f).pending = s.pending := rfl
@[simp] theorem State.onReleaseQueue_asserted : (s.onReleaseQueue f).asserted = s.asserted := rfl
@[simp] theorem State.onReleaseQueue_present : (s.onReleaseQueue f).present k = s.present k := rfl
@[simp] theorem State.onReleaseQueue_ms : (s.onReleaseQueue f).ms = s.ms := rfl
@[simp] theorem State.onReleaseQueue_slotRec : (s.onReleaseQueue f).slotRec k = s.slotRec k := rfl
@[simp] theorem State.onReleaseQueue_slotLive : (s.onReleaseQueue f).slotLive k = s.slotLive k := rfl
@[simp] theorem State.onReleaseQueue_permille : (s.onReleaseQueue f).permille = s.permille := rfl
@[simp] theorem State.onReleaseQueue_wait : (s.onReleaseQueue f).wait = s.wait := rfl
@[simp] theorem State.onReleaseQueue_checkPending : (s.onReleaseQueue f).checkPending k = s.checkPending k := rfl
@[simp] theorem State.onReleaseQueue_viewBusy : (s.onReleaseQueue f).viewBusy k = s.viewBusy k := rfl
@[simp] theorem State.onReleaseQueue_statusAnswer : (s.onReleaseQueue f).statusAnswer k = s.statusAnswer k := rfl
@[simp] theorem State.onReleaseQueue_idleMs : (s.onReleaseQueue f).idleMs = s.idleMs := rfl
@[simp] theorem State.onReleaseQueue_attnLow : (s.onReleaseQueue f).attnLow = s.attnLow := rfl

end

/-! `onGauge` -/

section

variable (f : Gauge → Gauge)

@[simp] theorem State.onGauge_phase : (s.onGauge f).phase = s.phase := rfl
@[simp] theorem State.onGauge_resetPin : (s.onGauge f).resetPin = s.resetPin := rfl
@[simp] theorem State.onGauge_ce : (s.onGauge f).ce = s.ce := rfl
@[simp] theorem State.onGauge_now : (s.onGauge f).now = s.now := rfl
@[simp] theorem State.onGauge_straps : (s.onGauge f).straps = s.straps := rfl
@[simp] theorem State.onGauge_ret : (s.onGauge f).ret = s.ret := rfl
@[simp] theorem State.onGauge_relay : (s.onGauge f).relay = s.relay := rfl
@[simp] theorem State.onGauge_arb : (s.onGauge f).arb = s.arb := rfl
@[simp] theorem State.onGauge_svc : (s.onGauge f).svc = s.svc := rfl
@[simp] theorem State.onGauge_tag : (s.onGauge f).tag = s.tag := rfl
@[simp] theorem State.onGauge_fe : (s.onGauge f).fe = s.fe := rfl
@[simp] theorem State.onGauge_mon : (s.onGauge f).mon = s.mon := rfl
@[simp] theorem State.onGauge_slots : (s.onGauge f).slots = s.slots := rfl
@[simp] theorem State.onGauge_releaseQueue : (s.onGauge f).releaseQueue = s.releaseQueue := rfl
@[simp] theorem State.onGauge_gauge : (s.onGauge f).gauge = f s.gauge := rfl
@[simp] theorem State.onGauge_counters : (s.onGauge f).counters = s.counters := rfl
@[simp] theorem State.onGauge_causes : (s.onGauge f).causes = s.causes := rfl
@[simp] theorem State.onGauge_doze : (s.onGauge f).doze = s.doze := rfl
@[simp] theorem State.onGauge_clock : (s.onGauge f).clock = s.clock := rfl
@[simp] theorem State.onGauge_ports : (s.onGauge f).ports = s.ports := rfl
@[simp] theorem State.onGauge_freeIndex : (s.onGauge f).freeIndex = s.freeIndex := rfl
@[simp] theorem State.onGauge_pending : (s.onGauge f).pending = s.pending := rfl
@[simp] theorem State.onGauge_asserted : (s.onGauge f).asserted = s.asserted := rfl
@[simp] theorem State.onGauge_present : (s.onGauge f).present k = s.present k := rfl
@[simp] theorem State.onGauge_ms : (s.onGauge f).ms = s.ms := rfl
@[simp] theorem State.onGauge_slotRec : (s.onGauge f).slotRec k = s.slotRec k := rfl
@[simp] theorem State.onGauge_slotLive : (s.onGauge f).slotLive k = s.slotLive k := rfl
@[simp] theorem State.onGauge_wait : (s.onGauge f).wait = s.wait := rfl
@[simp] theorem State.onGauge_checkPending : (s.onGauge f).checkPending k = s.checkPending k := rfl
@[simp] theorem State.onGauge_viewBusy : (s.onGauge f).viewBusy k = s.viewBusy k := rfl
@[simp] theorem State.onGauge_statusAnswer : (s.onGauge f).statusAnswer k = s.statusAnswer k := rfl
@[simp] theorem State.onGauge_idleMs : (s.onGauge f).idleMs = s.idleMs := rfl
@[simp] theorem State.onGauge_attnLow : (s.onGauge f).attnLow = s.attnLow := rfl

end

/-! `onCounters` -/

section

variable (f : Counters → Counters)

@[simp] theorem State.onCounters_phase : (s.onCounters f).phase = s.phase := rfl
@[simp] theorem State.onCounters_resetPin : (s.onCounters f).resetPin = s.resetPin := rfl
@[simp] theorem State.onCounters_ce : (s.onCounters f).ce = s.ce := rfl
@[simp] theorem State.onCounters_now : (s.onCounters f).now = s.now := rfl
@[simp] theorem State.onCounters_straps : (s.onCounters f).straps = s.straps := rfl
@[simp] theorem State.onCounters_ret : (s.onCounters f).ret = s.ret := rfl
@[simp] theorem State.onCounters_relay : (s.onCounters f).relay = s.relay := rfl
@[simp] theorem State.onCounters_arb : (s.onCounters f).arb = s.arb := rfl
@[simp] theorem State.onCounters_svc : (s.onCounters f).svc = s.svc := rfl
@[simp] theorem State.onCounters_tag : (s.onCounters f).tag = s.tag := rfl
@[simp] theorem State.onCounters_fe : (s.onCounters f).fe = s.fe := rfl
@[simp] theorem State.onCounters_mon : (s.onCounters f).mon = s.mon := rfl
@[simp] theorem State.onCounters_slots : (s.onCounters f).slots = s.slots := rfl
@[simp] theorem State.onCounters_releaseQueue : (s.onCounters f).releaseQueue = s.releaseQueue := rfl
@[simp] theorem State.onCounters_gauge : (s.onCounters f).gauge = s.gauge := rfl
@[simp] theorem State.onCounters_counters : (s.onCounters f).counters = f s.counters := rfl
@[simp] theorem State.onCounters_causes : (s.onCounters f).causes = s.causes := rfl
@[simp] theorem State.onCounters_doze : (s.onCounters f).doze = s.doze := rfl
@[simp] theorem State.onCounters_clock : (s.onCounters f).clock = s.clock := rfl
@[simp] theorem State.onCounters_ports : (s.onCounters f).ports = s.ports := rfl
@[simp] theorem State.onCounters_freeIndex : (s.onCounters f).freeIndex = s.freeIndex := rfl
@[simp] theorem State.onCounters_pending : (s.onCounters f).pending = s.pending := rfl
@[simp] theorem State.onCounters_asserted : (s.onCounters f).asserted = s.asserted := rfl
@[simp] theorem State.onCounters_present : (s.onCounters f).present k = s.present k := rfl
@[simp] theorem State.onCounters_ms : (s.onCounters f).ms = s.ms := rfl
@[simp] theorem State.onCounters_slotRec : (s.onCounters f).slotRec k = s.slotRec k := rfl
@[simp] theorem State.onCounters_slotLive : (s.onCounters f).slotLive k = s.slotLive k := rfl
@[simp] theorem State.onCounters_permille : (s.onCounters f).permille = s.permille := rfl
@[simp] theorem State.onCounters_wait : (s.onCounters f).wait = s.wait := rfl
@[simp] theorem State.onCounters_checkPending : (s.onCounters f).checkPending k = s.checkPending k := rfl
@[simp] theorem State.onCounters_viewBusy : (s.onCounters f).viewBusy k = s.viewBusy k := rfl
@[simp] theorem State.onCounters_statusAnswer : (s.onCounters f).statusAnswer k = s.statusAnswer k := rfl
@[simp] theorem State.onCounters_idleMs : (s.onCounters f).idleMs = s.idleMs := rfl
@[simp] theorem State.onCounters_attnLow : (s.onCounters f).attnLow = s.attnLow := rfl

end

/-! `onCauses` -/

section

variable (f : BitVec 8 → BitVec 8)

@[simp] theorem State.onCauses_phase : (s.onCauses f).phase = s.phase := rfl
@[simp] theorem State.onCauses_resetPin : (s.onCauses f).resetPin = s.resetPin := rfl
@[simp] theorem State.onCauses_ce : (s.onCauses f).ce = s.ce := rfl
@[simp] theorem State.onCauses_now : (s.onCauses f).now = s.now := rfl
@[simp] theorem State.onCauses_straps : (s.onCauses f).straps = s.straps := rfl
@[simp] theorem State.onCauses_ret : (s.onCauses f).ret = s.ret := rfl
@[simp] theorem State.onCauses_relay : (s.onCauses f).relay = s.relay := rfl
@[simp] theorem State.onCauses_arb : (s.onCauses f).arb = s.arb := rfl
@[simp] theorem State.onCauses_svc : (s.onCauses f).svc = s.svc := rfl
@[simp] theorem State.onCauses_tag : (s.onCauses f).tag = s.tag := rfl
@[simp] theorem State.onCauses_fe : (s.onCauses f).fe = s.fe := rfl
@[simp] theorem State.onCauses_mon : (s.onCauses f).mon = s.mon := rfl
@[simp] theorem State.onCauses_slots : (s.onCauses f).slots = s.slots := rfl
@[simp] theorem State.onCauses_releaseQueue : (s.onCauses f).releaseQueue = s.releaseQueue := rfl
@[simp] theorem State.onCauses_gauge : (s.onCauses f).gauge = s.gauge := rfl
@[simp] theorem State.onCauses_counters : (s.onCauses f).counters = s.counters := rfl
@[simp] theorem State.onCauses_causes : (s.onCauses f).causes = f s.causes := rfl
@[simp] theorem State.onCauses_doze : (s.onCauses f).doze = s.doze := rfl
@[simp] theorem State.onCauses_clock : (s.onCauses f).clock = s.clock := rfl
@[simp] theorem State.onCauses_ports : (s.onCauses f).ports = s.ports := rfl
@[simp] theorem State.onCauses_freeIndex : (s.onCauses f).freeIndex = s.freeIndex := rfl
@[simp] theorem State.onCauses_pending : (s.onCauses f).pending = s.pending := rfl
@[simp] theorem State.onCauses_asserted : (s.onCauses f).asserted = s.asserted := rfl
@[simp] theorem State.onCauses_present : (s.onCauses f).present k = s.present k := rfl
@[simp] theorem State.onCauses_ms : (s.onCauses f).ms = s.ms := rfl
@[simp] theorem State.onCauses_slotRec : (s.onCauses f).slotRec k = s.slotRec k := rfl
@[simp] theorem State.onCauses_slotLive : (s.onCauses f).slotLive k = s.slotLive k := rfl
@[simp] theorem State.onCauses_permille : (s.onCauses f).permille = s.permille := rfl
@[simp] theorem State.onCauses_wait : (s.onCauses f).wait = s.wait := rfl
@[simp] theorem State.onCauses_checkPending : (s.onCauses f).checkPending k = s.checkPending k := rfl
@[simp] theorem State.onCauses_viewBusy : (s.onCauses f).viewBusy k = s.viewBusy k := rfl
@[simp] theorem State.onCauses_statusAnswer : (s.onCauses f).statusAnswer k = s.statusAnswer k := rfl
@[simp] theorem State.onCauses_idleMs : (s.onCauses f).idleMs = s.idleMs := rfl

end

/-! `onDoze` -/

section

variable (f : Doze → Doze)

@[simp] theorem State.onDoze_phase : (s.onDoze f).phase = s.phase := rfl
@[simp] theorem State.onDoze_resetPin : (s.onDoze f).resetPin = s.resetPin := rfl
@[simp] theorem State.onDoze_ce : (s.onDoze f).ce = s.ce := rfl
@[simp] theorem State.onDoze_now : (s.onDoze f).now = s.now := rfl
@[simp] theorem State.onDoze_straps : (s.onDoze f).straps = s.straps := rfl
@[simp] theorem State.onDoze_ret : (s.onDoze f).ret = s.ret := rfl
@[simp] theorem State.onDoze_relay : (s.onDoze f).relay = s.relay := rfl
@[simp] theorem State.onDoze_arb : (s.onDoze f).arb = s.arb := rfl
@[simp] theorem State.onDoze_svc : (s.onDoze f).svc = s.svc := rfl
@[simp] theorem State.onDoze_tag : (s.onDoze f).tag = s.tag := rfl
@[simp] theorem State.onDoze_fe : (s.onDoze f).fe = s.fe := rfl
@[simp] theorem State.onDoze_mon : (s.onDoze f).mon = s.mon := rfl
@[simp] theorem State.onDoze_slots : (s.onDoze f).slots = s.slots := rfl
@[simp] theorem State.onDoze_releaseQueue : (s.onDoze f).releaseQueue = s.releaseQueue := rfl
@[simp] theorem State.onDoze_gauge : (s.onDoze f).gauge = s.gauge := rfl
@[simp] theorem State.onDoze_counters : (s.onDoze f).counters = s.counters := rfl
@[simp] theorem State.onDoze_causes : (s.onDoze f).causes = s.causes := rfl
@[simp] theorem State.onDoze_doze : (s.onDoze f).doze = f s.doze := rfl
@[simp] theorem State.onDoze_clock : (s.onDoze f).clock = s.clock := rfl
@[simp] theorem State.onDoze_ports : (s.onDoze f).ports = s.ports := rfl
@[simp] theorem State.onDoze_freeIndex : (s.onDoze f).freeIndex = s.freeIndex := rfl
@[simp] theorem State.onDoze_pending : (s.onDoze f).pending = s.pending := rfl
@[simp] theorem State.onDoze_asserted : (s.onDoze f).asserted = s.asserted := rfl
@[simp] theorem State.onDoze_present : (s.onDoze f).present k = s.present k := rfl
@[simp] theorem State.onDoze_ms : (s.onDoze f).ms = s.ms := rfl
@[simp] theorem State.onDoze_slotRec : (s.onDoze f).slotRec k = s.slotRec k := rfl
@[simp] theorem State.onDoze_slotLive : (s.onDoze f).slotLive k = s.slotLive k := rfl
@[simp] theorem State.onDoze_permille : (s.onDoze f).permille = s.permille := rfl
@[simp] theorem State.onDoze_wait : (s.onDoze f).wait = s.wait := rfl
@[simp] theorem State.onDoze_checkPending : (s.onDoze f).checkPending k = s.checkPending k := rfl
@[simp] theorem State.onDoze_viewBusy : (s.onDoze f).viewBusy k = s.viewBusy k := rfl
@[simp] theorem State.onDoze_statusAnswer : (s.onDoze f).statusAnswer k = s.statusAnswer k := rfl
@[simp] theorem State.onDoze_attnLow : (s.onDoze f).attnLow = s.attnLow := rfl

end

/-! `onClock` -/

section

variable (f : StampClock → StampClock)

@[simp] theorem State.onClock_phase : (s.onClock f).phase = s.phase := rfl
@[simp] theorem State.onClock_resetPin : (s.onClock f).resetPin = s.resetPin := rfl
@[simp] theorem State.onClock_ce : (s.onClock f).ce = s.ce := rfl
@[simp] theorem State.onClock_now : (s.onClock f).now = s.now := rfl
@[simp] theorem State.onClock_straps : (s.onClock f).straps = s.straps := rfl
@[simp] theorem State.onClock_ret : (s.onClock f).ret = s.ret := rfl
@[simp] theorem State.onClock_relay : (s.onClock f).relay = s.relay := rfl
@[simp] theorem State.onClock_arb : (s.onClock f).arb = s.arb := rfl
@[simp] theorem State.onClock_svc : (s.onClock f).svc = s.svc := rfl
@[simp] theorem State.onClock_tag : (s.onClock f).tag = s.tag := rfl
@[simp] theorem State.onClock_fe : (s.onClock f).fe = s.fe := rfl
@[simp] theorem State.onClock_mon : (s.onClock f).mon = s.mon := rfl
@[simp] theorem State.onClock_slots : (s.onClock f).slots = s.slots := rfl
@[simp] theorem State.onClock_releaseQueue : (s.onClock f).releaseQueue = s.releaseQueue := rfl
@[simp] theorem State.onClock_gauge : (s.onClock f).gauge = s.gauge := rfl
@[simp] theorem State.onClock_counters : (s.onClock f).counters = s.counters := rfl
@[simp] theorem State.onClock_causes : (s.onClock f).causes = s.causes := rfl
@[simp] theorem State.onClock_doze : (s.onClock f).doze = s.doze := rfl
@[simp] theorem State.onClock_clock : (s.onClock f).clock = f s.clock := rfl
@[simp] theorem State.onClock_ports : (s.onClock f).ports = s.ports := rfl
@[simp] theorem State.onClock_freeIndex : (s.onClock f).freeIndex = s.freeIndex := rfl
@[simp] theorem State.onClock_pending : (s.onClock f).pending = s.pending := rfl
@[simp] theorem State.onClock_asserted : (s.onClock f).asserted = s.asserted := rfl
@[simp] theorem State.onClock_present : (s.onClock f).present k = s.present k := rfl
@[simp] theorem State.onClock_ms : (s.onClock f).ms = s.ms := rfl
@[simp] theorem State.onClock_slotRec : (s.onClock f).slotRec k = s.slotRec k := rfl
@[simp] theorem State.onClock_slotLive : (s.onClock f).slotLive k = s.slotLive k := rfl
@[simp] theorem State.onClock_permille : (s.onClock f).permille = s.permille := rfl
@[simp] theorem State.onClock_wait : (s.onClock f).wait = s.wait := rfl
@[simp] theorem State.onClock_checkPending : (s.onClock f).checkPending k = s.checkPending k := rfl
@[simp] theorem State.onClock_viewBusy : (s.onClock f).viewBusy k = s.viewBusy k := rfl
@[simp] theorem State.onClock_statusAnswer : (s.onClock f).statusAnswer k = s.statusAnswer k := rfl
@[simp] theorem State.onClock_idleMs : (s.onClock f).idleMs = s.idleMs := rfl
@[simp] theorem State.onClock_attnLow : (s.onClock f).attnLow = s.attnLow := rfl

end

/-! `onPorts` -/

section

variable (f : Ports → Ports)

@[simp] theorem State.onPorts_phase : (s.onPorts f).phase = s.phase := rfl
@[simp] theorem State.onPorts_resetPin : (s.onPorts f).resetPin = s.resetPin := rfl
@[simp] theorem State.onPorts_ce : (s.onPorts f).ce = s.ce := rfl
@[simp] theorem State.onPorts_now : (s.onPorts f).now = s.now := rfl
@[simp] theorem State.onPorts_straps : (s.onPorts f).straps = s.straps := rfl
@[simp] theorem State.onPorts_ret : (s.onPorts f).ret = s.ret := rfl
@[simp] theorem State.onPorts_relay : (s.onPorts f).relay = s.relay := rfl
@[simp] theorem State.onPorts_arb : (s.onPorts f).arb = s.arb := rfl
@[simp] theorem State.onPorts_svc : (s.onPorts f).svc = s.svc := rfl
@[simp] theorem State.onPorts_tag : (s.onPorts f).tag = s.tag := rfl
@[simp] theorem State.onPorts_fe : (s.onPorts f).fe = s.fe := rfl
@[simp] theorem State.onPorts_mon : (s.onPorts f).mon = s.mon := rfl
@[simp] theorem State.onPorts_slots : (s.onPorts f).slots = s.slots := rfl
@[simp] theorem State.onPorts_releaseQueue : (s.onPorts f).releaseQueue = s.releaseQueue := rfl
@[simp] theorem State.onPorts_gauge : (s.onPorts f).gauge = s.gauge := rfl
@[simp] theorem State.onPorts_counters : (s.onPorts f).counters = s.counters := rfl
@[simp] theorem State.onPorts_causes : (s.onPorts f).causes = s.causes := rfl
@[simp] theorem State.onPorts_doze : (s.onPorts f).doze = s.doze := rfl
@[simp] theorem State.onPorts_clock : (s.onPorts f).clock = s.clock := rfl
@[simp] theorem State.onPorts_ports : (s.onPorts f).ports = f s.ports := rfl
@[simp] theorem State.onPorts_freeIndex : (s.onPorts f).freeIndex = s.freeIndex := rfl
@[simp] theorem State.onPorts_pending : (s.onPorts f).pending = s.pending := rfl
@[simp] theorem State.onPorts_asserted : (s.onPorts f).asserted = s.asserted := rfl
@[simp] theorem State.onPorts_present : (s.onPorts f).present k = s.present k := rfl
@[simp] theorem State.onPorts_ms : (s.onPorts f).ms = s.ms := rfl
@[simp] theorem State.onPorts_slotRec : (s.onPorts f).slotRec k = s.slotRec k := rfl
@[simp] theorem State.onPorts_slotLive : (s.onPorts f).slotLive k = s.slotLive k := rfl
@[simp] theorem State.onPorts_permille : (s.onPorts f).permille = s.permille := rfl
@[simp] theorem State.onPorts_wait : (s.onPorts f).wait = s.wait := rfl
@[simp] theorem State.onPorts_checkPending : (s.onPorts f).checkPending k = s.checkPending k := rfl
@[simp] theorem State.onPorts_viewBusy : (s.onPorts f).viewBusy k = s.viewBusy k := rfl
@[simp] theorem State.onPorts_statusAnswer : (s.onPorts f).statusAnswer k = s.statusAnswer k := rfl
@[simp] theorem State.onPorts_idleMs : (s.onPorts f).idleMs = s.idleMs := rfl
@[simp] theorem State.onPorts_attnLow : (s.onPorts f).attnLow = s.attnLow := rfl

end

/-! The start of a command and the run of the time base -/

@[simp] theorem State.begin_phase : (s.begin).phase = s.phase := rfl
@[simp] theorem State.begin_resetPin : (s.begin).resetPin = s.resetPin := rfl
@[simp] theorem State.begin_ce : (s.begin).ce = s.ce := rfl
@[simp] theorem State.begin_now : (s.begin).now = s.now := rfl
@[simp] theorem State.begin_straps : (s.begin).straps = s.straps := rfl
@[simp] theorem State.begin_ret : (s.begin).ret = s.ret := rfl
@[simp] theorem State.begin_relay : (s.begin).relay = s.relay := rfl
@[simp] theorem State.begin_arb : (s.begin).arb = s.arb := rfl
@[simp] theorem State.begin_svc : (s.begin).svc = s.svc := rfl
@[simp] theorem State.begin_tag : (s.begin).tag = s.tag := rfl
@[simp] theorem State.begin_fe : (s.begin).fe = s.fe := rfl
@[simp] theorem State.begin_mon : (s.begin).mon = s.mon := rfl
@[simp] theorem State.begin_slots : (s.begin).slots = s.slots := rfl
@[simp] theorem State.begin_releaseQueue : (s.begin).releaseQueue = s.releaseQueue := rfl
@[simp] theorem State.begin_gauge : (s.begin).gauge = s.gauge := rfl
@[simp] theorem State.begin_counters : (s.begin).counters = s.counters := rfl
@[simp] theorem State.begin_causes : (s.begin).causes = s.causes := rfl
@[simp] theorem State.begin_doze : (s.begin).doze = s.doze := rfl
@[simp] theorem State.begin_clock : (s.begin).clock = s.clock := rfl
@[simp] theorem State.begin_ports : (s.begin).ports = Ports.quiet := rfl
@[simp] theorem State.begin_freeIndex : (s.begin).freeIndex = s.freeIndex := rfl
@[simp] theorem State.begin_pending : (s.begin).pending = s.pending := rfl
@[simp] theorem State.begin_asserted : (s.begin).asserted = s.asserted := rfl
@[simp] theorem State.begin_present : (s.begin).present k = s.present k := rfl
@[simp] theorem State.begin_ms : (s.begin).ms = s.ms := rfl
@[simp] theorem State.begin_slotRec : (s.begin).slotRec k = s.slotRec k := rfl
@[simp] theorem State.begin_slotLive : (s.begin).slotLive k = s.slotLive k := rfl
@[simp] theorem State.begin_permille : (s.begin).permille = s.permille := rfl
@[simp] theorem State.begin_wait : (s.begin).wait = s.wait := rfl
@[simp] theorem State.begin_checkPending : (s.begin).checkPending k = s.checkPending k := rfl
@[simp] theorem State.begin_viewBusy : (s.begin).viewBusy k = s.viewBusy k := rfl
@[simp] theorem State.begin_statusAnswer : (s.begin).statusAnswer k = s.statusAnswer k := rfl
@[simp] theorem State.begin_idleMs : (s.begin).idleMs = s.idleMs := rfl
@[simp] theorem State.begin_attnLow : (s.begin).attnLow = s.attnLow := rfl

section

variable (t : Nat)

@[simp] theorem State.runTo_phase : (s.runTo t).phase = s.phase := rfl
@[simp] theorem State.runTo_resetPin : (s.runTo t).resetPin = s.resetPin := rfl
@[simp] theorem State.runTo_ce : (s.runTo t).ce = s.ce := rfl
@[simp] theorem State.runTo_now : (s.runTo t).now = max s.now t := rfl
@[simp] theorem State.runTo_straps : (s.runTo t).straps = s.straps := rfl
@[simp] theorem State.runTo_ret : (s.runTo t).ret = s.ret := rfl
@[simp] theorem State.runTo_relay : (s.runTo t).relay = s.relay := rfl
@[simp] theorem State.runTo_arb : (s.runTo t).arb = s.arb := rfl
@[simp] theorem State.runTo_svc : (s.runTo t).svc = s.svc := rfl
@[simp] theorem State.runTo_tag : (s.runTo t).tag = s.tag := rfl
@[simp] theorem State.runTo_fe : (s.runTo t).fe = s.fe := rfl
@[simp] theorem State.runTo_mon : (s.runTo t).mon = s.mon := rfl
@[simp] theorem State.runTo_slots : (s.runTo t).slots = s.slots := rfl
@[simp] theorem State.runTo_releaseQueue : (s.runTo t).releaseQueue = s.releaseQueue := rfl
@[simp] theorem State.runTo_gauge : (s.runTo t).gauge = s.gauge := rfl
@[simp] theorem State.runTo_counters : (s.runTo t).counters = s.counters := rfl
@[simp] theorem State.runTo_causes : (s.runTo t).causes = s.causes := rfl
@[simp] theorem State.runTo_doze : (s.runTo t).doze = s.doze := rfl
@[simp] theorem State.runTo_clock : (s.runTo t).clock = s.clock := rfl
@[simp] theorem State.runTo_ports : (s.runTo t).ports = s.ports := rfl
@[simp] theorem State.runTo_freeIndex : (s.runTo t).freeIndex = s.freeIndex := rfl
@[simp] theorem State.runTo_pending : (s.runTo t).pending = s.pending := rfl
@[simp] theorem State.runTo_asserted : (s.runTo t).asserted = s.asserted := rfl
@[simp] theorem State.runTo_present : (s.runTo t).present k = s.present k := rfl
@[simp] theorem State.runTo_slotRec : (s.runTo t).slotRec k = s.slotRec k := rfl
@[simp] theorem State.runTo_slotLive : (s.runTo t).slotLive k = s.slotLive k := rfl
@[simp] theorem State.runTo_permille : (s.runTo t).permille = s.permille := rfl
@[simp] theorem State.runTo_wait : (s.runTo t).wait = s.wait := rfl
@[simp] theorem State.runTo_checkPending : (s.runTo t).checkPending k = s.checkPending k := rfl
@[simp] theorem State.runTo_viewBusy : (s.runTo t).viewBusy k = s.viewBusy k := rfl
@[simp] theorem State.runTo_statusAnswer : (s.runTo t).statusAnswer k = s.statusAnswer k := rfl
@[simp] theorem State.runTo_attnLow : (s.runTo t).attnLow = s.attnLow := rfl

end

end Sys2Proof.Machine
end

