-- ==== Sys2Proof/Laws/Ops.lean ====
section
/-! SUPPORT. What each shared elementary operation does, as the one update it is: the simp set turns these operations into the
updates of Laws/State.lean, and no later proof unfolds them. -/

namespace Sys2Proof.Machine

variable (s : State) (k : ModuleId)

/-! ### Elementary operations are updates -/

@[simp] theorem State.count_eq (i : CounterId) : s.count i = s.onCounters fun c => c.set i (grow16 (c.get i)) := rfl

@[simp] theorem State.raise_eq (c : AttnCause) : s.raise c = s.onCauses fun p => p ||| c.bit := rfl

@[simp] theorem State.drive_eq (cs : List ModuleCycle) :
    s.drive cs = s.onPorts fun p => { p with moduleCycles := p.moduleCycles ++ cs } := rfl

@[simp] theorem State.forward_eq (cs : List ModuleCycle) :
    s.forward cs =
      (s.onPorts fun p => { p with moduleCycles := p.moduleCycles ++ cs }).onArb fun a => { a with gapFrom := none } := rfl

@[simp] theorem State.answerByte_eq (b : Byte) : s.answerByte b = s.onPorts fun p => { p with driveData := some b } := rfl

@[simp] theorem State.request_eq (kind : InsertKind) (cause : Option ReleaseCause) :
    s.request k kind cause =
      s.onArb fun a => { a with queue := queueRequest a.queue { module := k, kind := kind, cause := cause } } := rfl

@[simp] theorem State.withdraw_eq : s.withdraw k = s.onArb fun a => { a with queue := queueWithdraw a.queue k } := rfl

@[simp] theorem State.insertEnds_eq :
    s.insertEnds = s.onArb fun a => { a with running := none, gapFrom := some s.now } := rfl

@[simp] theorem State.setSlotRec_eq (r : SlotRec) :
    s.setSlotRec k r = s.onRet fun m => { m with slots := m.slots.set k r } := rfl

@[simp] theorem State.setSlotLive_eq (l : SlotLive) : s.setSlotLive k l = s.onSlots fun v => v.set k l := rfl

@[simp] theorem State.setReadyFail_eq :
    s.setReadyFail k = s.onRelay fun r => { r with readyFail := r.readyFail.set k true } := rfl

@[simp] theorem State.setSeq_eq (q : Option Seq) : s.setSeq q = s.onRelay fun r => { r with seq := q } := rfl

@[simp] theorem State.setProgram_eq (p : Option TagProgram) : s.setProgram p = s.onTag fun t => { t with program := p } := rfl

@[simp] theorem State.setRead_eq (r : Option TagRead) : s.setRead r = s.onTag fun t => { t with read := r } := rfl

@[simp] theorem State.setFrame_eq (f : FrameBuf) : s.setFrame f = s.onSvc fun v => { v with frame := some f } := rfl

@[simp] theorem State.setProcessing_eq (p : Option Processing) :
    s.setProcessing p = s.onSvc fun v => { v with processing := p } := rfl

@[simp] theorem State.setMon_eq (st : MonState) (lowRun settle : Nat) :
    s.setMon st lowRun settle = s.onMon fun m => { m with state := st, lowRun := lowRun, settle := settle } := rfl

@[simp] theorem State.idleZero_eq : s.idleZero = s.onDoze fun d => { d with idleFromMs := s.ms } := rfl

@[simp] theorem State.writeChargeCopy_eq :
    s.writeChargeCopy = s.onRet fun m =>
      { m with chargeCopy := { q := s.gauge.q, underrun := s.gauge.underrun, unknown := s.gauge.unknown } } := rfl

@[simp] theorem State.writeStampCopy_eq :
    s.writeStampCopy = s.onRet fun m => { m with stampCopy := s.clock.stamp } := rfl

@[simp] theorem State.ignoreOpen_eq :
    s.ignoreOpen = (s.count .protocol).onRelay fun r => { r with absorb := true } := rfl

/-! ### Per-module values -/

@[simp] theorem PerModule.get_set_self {α : Type} (v : PerModule α) (j : ModuleId) (x : α) : (v.set j x).get j = x := by
  cases j <;> rfl

theorem PerModule.get_set_other {α : Type} (v : PerModule α) {i j : ModuleId} (x : α) (h : i ≠ j) :
    (v.set j x).get i = v.get i := by cases i <;> cases j <;> first | rfl | exact absurd rfl h

@[simp] theorem PerModule.set_set {α : Type} (v : PerModule α) (j : ModuleId) (x y : α) :
    (v.set j x).set j y = v.set j y := by cases j <;> rfl

@[simp] theorem PerModule.set_get {α : Type} (v : PerModule α) (j : ModuleId) : v.set j (v.get j) = v := by
  cases j <;> rfl

/-! ### Commands -/

/-- A command on a part that serves the drive port is its effect after the ports go quiet. -/
theorem State.serving_running {s : State} (h : s.phase = .running) (f : State → State) : s.serving f = f s.begin := by
  simp only [State.serving, h]

/-- A command on a part that does not serve the drive port only leaves the ports quiet. -/
theorem State.serving_stopped {s : State} (h : s.phase ≠ .running) (f : State → State) : s.serving f = s.begin := by
  unfold State.serving
  split
  · exact absurd ‹_› h
  · rfl
  · rfl

/-- An open code on a part that serves the drive port is its effect after the ports go quiet. -/
theorem State.hearing_running {s : State} (h : s.phase = .running) (f : State → State) : s.hearing f = f s.begin := by
  simp only [State.hearing, h]

/-- An open code under the WAIT of a reset only starts the absorption, and without CE# not even that. -/
theorem State.hearing_inReset {s : State} {kind : ResetKind} (h : s.phase = .inReset kind) (f : State → State) :
    s.hearing f =
      if s.asserted.isEmpty then s.begin else s.begin.onRelay fun r => { r with absorb := true } := by
  simp only [State.hearing, h]

/-- An open code on a part without supply only leaves the ports quiet. -/
theorem State.hearing_unpowered {s : State} (h : s.phase = .unpowered) (f : State → State) : s.hearing f = s.begin := by
  simp only [State.hearing, h]

end Sys2Proof.Machine
end

