-- ==== Sys2Proof/Laws/Frames.lean ====
section
/-! SUPPORT. What each larger shared operation can change, said once: `Frame f s t` says that `t` differs from `s` in nothing but
the parts that `f` takes from it. A field outside those parts is unchanged by projecting the equation. -/

namespace Sys2Proof.Machine

/-- `t` is `s` but for the parts that `f` takes from its second argument. -/
abbrev Frame (f : State → State → State) (s t : State) : Prop := t = f s t

/-- Nothing is changed. -/
def touchNone (s _t : State) : State := s

/-- The suspect list, its overflow count and the causes. -/
def touchList (s t : State) : State :=
  { s with causes := t.causes, ret := { s.ret with suspects := t.ret.suspects, overflow := t.ret.overflow } }

/-- The shock log, its epoch and overwritten count, and the causes. -/
def touchLog (s t : State) : State :=
  { s with
    causes := t.causes
    ret := { s.ret with shocks := t.ret.shocks, epoch := t.ret.epoch, overwritten := t.ret.overwritten } }

/-- What the slots' operations reach: both parts of the slots, the release queue, the insert queue, the suspect list, the open
record and its counted modules, the answer overrides, the counters and the causes. -/
def touchSlots (s t : State) : State :=
  { s with
    ret :=
      { s.ret with
        slots := t.ret.slots, suspects := t.ret.suspects, overflow := t.ret.overflow, shocks := t.ret.shocks }
    mon := { s.mon with heldCounted := t.mon.heldCounted, exposedCounted := t.mon.exposedCounted }
    slots := t.slots
    releaseQueue := t.releaseQueue
    arb := { s.arb with queue := t.arb.queue }
    relay := { s.relay with readyFail := t.relay.readyFail }
    counters := t.counters
    causes := t.causes }

/-- What the gauge reaches: itself, its retained copy, and through the level the slots. -/
def touchGauge (s t : State) : State :=
  { touchSlots s t with gauge := t.gauge, ret := { (touchSlots s t).ret with chargeCopy := t.ret.chargeCopy } }

/-- What the monitor reaches: itself, the shock log, the slots, and at a departure from CALM the rates of doze control. -/
def touchMonitor (s t : State) : State :=
  { touchSlots s t with
    ret := { (touchSlots s t).ret with epoch := t.ret.epoch, overwritten := t.ret.overwritten }
    mon := t.mon
    doze := t.doze
    fe := { s.fe with
            window := t.fe.window, sum := t.fe.sum, pollPeriod := t.fe.pollPeriod, nextPoll := t.fe.nextPoll }
    gauge := { s.gauge with currentPeriod := t.gauge.currentPeriod, nextCurrent := t.gauge.nextCurrent } }

/-- What a change of rate reaches. -/
def touchDoze (s t : State) : State :=
  { s with
    doze := t.doze
    ret := { s.ret with chargeCopy := t.ret.chargeCopy }
    fe := { s.fe with
            window := t.fe.window, sum := t.fe.sum, pollPeriod := t.fe.pollPeriod, nextPoll := t.fe.nextPoll }
    gauge := { s.gauge with currentPeriod := t.gauge.currentPeriod, nextCurrent := t.gauge.nextCurrent } }

/-- What storing the settings reaches: the table, the window, and what the gauge reaches. -/
def touchStore (s t : State) : State :=
  { touchGauge s t with
    ret := { (touchGauge s t).ret with settings := t.ret.settings }
    fe := { s.fe with window := t.fe.window, sum := t.fe.sum } }

/-- What the tag engine's read check reaches. -/
def touchRead (s t : State) : State :=
  { touchList s t with tag := { s.tag with read := t.tag.read }, counters := t.counters }

/-- What the tag engine's program stream reaches. -/
def touchProgram (s t : State) : State :=
  { s with
    tag := { s.tag with program := t.tag.program }
    ret := { s.ret with writeSeq := t.ret.writeSeq }
    ports := t.ports
    arb := { s.arb with gapFrom := t.arb.gapFrom } }

/-! ### The calculus of frames -/

section

variable {f g : State → State → State} {s t u : State}

theorem Frame.trans (hf : ∀ a b c, f (f a b) c = f a c) (h : Frame f s t) (h' : Frame f t u) : Frame f s u := by
  unfold Frame at *
  rw [h, hf] at h'
  exact h'

/-- A frame of fewer parts is one of more parts. -/
theorem Frame.weaken (hg : ∀ a b, g a (f a b) = f a b) (h : Frame f s t) : Frame g s t := by
  unfold Frame at *
  rw [h, hg]

/-- A reading that the frame's parts do not reach is unchanged. -/
theorem Frame.reads {α : Type} (h : Frame f s t) (p : State → α) (hp : ∀ a b, p (f a b) = p a) : p t = p s := by
  unfold Frame at h
  rw [h, hp]

/-- Operations of one frame in a row keep it. -/
theorem Frame.foldl {α : Type} (op : State → α → State) (hf : ∀ a b c, f (f a b) c = f a c) (h0 : ∀ a, f a a = a)
    (hop : ∀ a x, Frame f a (op a x)) (l : List α) (a : State) : Frame f a (l.foldl op a) := by
  induction l generalizing a with
  | nil => exact (h0 a).symm
  | cons x l ih => exact Frame.trans hf (hop a x) (ih (op a x))

end

theorem touchList_slots {s t : State} (h : Frame touchList s t) : Frame touchSlots s t := h.weaken fun _ _ => rfl
theorem touchSlots_gauge {s t : State} (h : Frame touchSlots s t) : Frame touchGauge s t := h.weaken fun _ _ => rfl
theorem touchSlots_monitor {s t : State} (h : Frame touchSlots s t) : Frame touchMonitor s t := h.weaken fun _ _ => rfl
theorem touchLog_monitor {s t : State} (h : Frame touchLog s t) : Frame touchMonitor s t := h.weaken fun _ _ => rfl
theorem touchSlots_trans {s t u : State} (h : Frame touchSlots s t) (h' : Frame touchSlots t u) : Frame touchSlots s u :=
  h.trans (fun _ _ _ => rfl) h'
theorem touchGauge_trans {s t u : State} (h : Frame touchGauge s t) (h' : Frame touchGauge t u) : Frame touchGauge s u :=
  h.trans (fun _ _ _ => rfl) h'
theorem touchMonitor_trans {s t u : State} (h : Frame touchMonitor s t) (h' : Frame touchMonitor t u) :
    Frame touchMonitor s u := h.trans (fun _ _ _ => rfl) h'

/-- Signals of the slots in a row are one signal of the slots. -/
theorem touchSlots_foldl {op : State → ModuleId → State} (hop : ∀ a k, Frame touchSlots a (op a k)) (l : List ModuleId)
    (a : State) : Frame touchSlots a (l.foldl op a) :=
  Frame.foldl (f := touchSlots) op (fun _ _ _ => rfl) (fun _ => rfl) hop l a

variable (s : State) (k : ModuleId)

/-! ### The suspect list -/

theorem handRequest_frame (req : Suspect) (raises : Bool) : Frame touchList s (s.handRequest req raises) := by
  unfold State.handRequest
  dsimp only
  split <;> split <;> rfl

theorem damage_frame (e fields : Suspect) : Frame touchList s (s.damage e fields) := by
  unfold State.damage
  split <;> rfl

theorem readReport_frame (o : ReadOutcome) (key : SuspectKey) (ws : Option Nat) :
    Frame touchList s (s.readReport o key ws) := by
  unfold State.readReport
  cases findSuspect s.ret.suspects key with
  | some e =>
    cases o with
    | matched => dsimp only; split <;> rfl
    | mismatch => exact damage_frame s _ _
    | misplaced => exact damage_frame s _ _
    | untagged => exact damage_frame s _ _
    | empty => dsimp only; split <;> [rfl; exact damage_frame s _ _]
    | skipped => rfl
  | none =>
    cases o with
    | mismatch => exact handRequest_frame s _ _
    | misplaced => exact handRequest_frame s _ _
    | matched => rfl
    | untagged => rfl
    | empty => rfl
    | skipped => rfl

theorem removeBlock_frame (block : BitVec 11) : Frame touchList s (s.removeBlock k block) := rfl

theorem releaseSuspects_frame (sel : SuspectSelector) : Frame touchList s (s.releaseSuspects sel).1 := by
  unfold State.releaseSuspects
  split
  · split <;> rfl
  · rfl

/-! ### The shock log -/

theorem createShock_frame (r : ShockRec) (raises : Bool) : Frame touchLog s (s.createShock r raises).1 := by
  unfold State.createShock
  split <;> dsimp only <;> (repeat' split) <;> rfl

theorem changeShock_frame (n : Nat) (f : ShockRec → ShockRec) : Frame touchSlots s (s.changeShock n f) := rfl

theorem changeOpenRec_frame (f : ShockRec → ShockRec) : Frame touchSlots s (s.changeOpenRec f) := by
  unfold State.changeOpenRec
  split <;> rfl

theorem clearShocks_frame (n : Nat) : Frame touchLog s (s.clearShocks n).1 := rfl

theorem closeOpenRec_frame : Frame touchMonitor s s.closeOpenRec :=
  touchMonitor_trans (touchSlots_monitor (changeOpenRec_frame s _)) rfl

/-! ### The slots -/

theorem countHeld_frame : Frame touchSlots s (s.countHeld k) := by
  unfold State.countHeld
  split
  · rfl
  · exact touchSlots_trans (changeOpenRec_frame s _) rfl

theorem countExposed_frame : Frame touchSlots s (s.countExposed k) := by
  unfold State.countExposed
  split
  · rfl
  · exact touchSlots_trans (changeOpenRec_frame s _) rfl

theorem markExposed_frame (offset : Nat) : Frame touchSlots s (s.markExposed k offset) := by
  unfold State.markExposed
  split
  · refine touchSlots_trans ?_ (countExposed_frame _ _)
    rfl
  · rfl

theorem releaseSlot_frame (cause : ReleaseCause) : Frame touchSlots s (s.releaseSlot k cause) := by
  unfold State.releaseSlot
  dsimp only
  split <;> rfl

theorem breakHold_frame : Frame touchSlots s (s.breakHold k) :=
  touchSlots_trans (releaseSlot_frame s k _) rfl

theorem judgeHolds_frame : Frame touchSlots s s.judgeHolds := by
  refine touchSlots_foldl (fun a x => ?_) _ s
  split
  · exact breakHold_frame a x
  · rfl

theorem forceAll_frame : Frame touchSlots s s.forceAll.1 := by
  have h : ∀ (l : List ModuleId) (p : State × Nat),
      Frame touchSlots p.1
        (l.foldl (fun p k => let r := p.1.forceSlot k; (r.1, p.2 + r.2)) p).1 := by
    intro l
    induction l with
    | nil => intro p; rfl
    | cons x l ih => intro p; exact touchSlots_trans (releaseSlot_frame p.1 x _) (ih _)
  exact h _ (s, 0)

/-- A close writes the slot's record and its volatile part, takes it out of the release queue, and reaches nothing else but the
suspect list and the causes (R101). -/
theorem closeSlot_eq (o : SlotOutcome) : ∃ suspects overflow causes,
    s.closeSlot k o =
      { s with
        ret :=
          { s.ret with
            slots := s.ret.slots.set k
              { s.slotRec k with state := .free, last := some o, busyMs := (s.slotLive k).busyMs s.ms }
            suspects := suspects
            overflow := overflow }
        slots := s.slots.set k
          { s.slotLive k with state := .free, step := none, issueMs := none, timerFrom := none, keptReturn := false }
        releaseQueue := s.releaseQueue.filter fun m => decide (m ≠ k)
        causes := causes } := by
  have hf : ∀ u v : State, Frame touchList u v → v = touchList u v := fun _ _ h => h
  unfold State.closeSlot
  dsimp only
  split <;> split
  · exact ⟨_, _, _,
      (hf _ _ (Frame.trans (fun _ _ _ => rfl) (handRequest_frame _ _ _) (removeBlock_frame _ k _))).trans rfl⟩
  · exact ⟨_, _, _, (hf _ _ (removeBlock_frame _ _ _)).trans rfl⟩
  · exact ⟨_, _, _, (hf _ _ (handRequest_frame _ _ _)).trans rfl⟩
  · exact ⟨_, _, _, rfl⟩

theorem closeSlot_frame (o : SlotOutcome) : Frame touchSlots s (s.closeSlot k o) := by
  obtain ⟨suspects, overflow, causes, h⟩ := closeSlot_eq s k o
  rw [h]
  rfl

theorem criticalSlot_frame : Frame touchSlots s (s.criticalSlot k) := by
  unfold State.criticalSlot
  dsimp only
  split
  · split
    · refine touchSlots_trans (t := ((s.withdraw k).setSlotRec k { s.slotRec k with cause := some .critical })) rfl ?_
      exact touchSlots_trans (closeSlot_frame _ k _) rfl
    · exact touchSlots_trans (releaseSlot_frame s k _) rfl
  · rfl

theorem criticalEntry_frame : Frame touchSlots s s.criticalEntry :=
  touchSlots_foldl criticalSlot_frame _ s

theorem suspendSlot_frame : Frame touchSlots s (s.suspendSlot k) := by
  unfold State.suspendSlot
  dsimp only
  split
  · split <;> rfl
  · rfl

theorem resumeSlot_frame : Frame touchSlots s (s.resumeSlot k) := by
  unfold State.resumeSlot
  dsimp only
  split <;> rfl

theorem exposeSlot_frame : Frame touchSlots s (s.exposeSlot k) := by
  unfold State.exposeSlot
  dsimp only
  split <;> first | exact markExposed_frame s k _ | rfl

theorem withdrawRelease_frame : Frame touchSlots s (s.withdrawRelease k) := by
  unfold State.withdrawRelease
  split <;> rfl

theorem departureSignals_frame : Frame touchSlots s s.departureSignals := by
  unfold State.departureSignals
  exact touchSlots_trans (touchSlots_foldl exposeSlot_frame _ s)
    (touchSlots_trans (touchSlots_foldl suspendSlot_frame _ _)
      (touchSlots_trans (touchSlots_foldl withdrawRelease_frame _ _) (judgeHolds_frame _)))

theorem resumeAll_frame : Frame touchSlots s s.resumeAll :=
  touchSlots_foldl resumeSlot_frame _ s

theorem calmSignals_frame : Frame touchSlots s s.calmSignals := by
  refine touchSlots_trans (touchSlots_foldl (fun a x => ?_) _ s) (resumeAll_frame _)
  split
  · exact releaseSlot_frame a x _
  · rfl

theorem blindSignals_frame : Frame touchSlots s s.blindSignals := by
  refine touchSlots_trans (touchSlots_foldl (fun a x => ?_) _ s) (resumeAll_frame _)
  split
  · exact releaseSlot_frame a x _
  · rfl

theorem takeConfirm_frame (c : Confirm) : Frame touchSlots s (s.takeConfirm k c) := by
  unfold State.takeConfirm
  dsimp only
  split
  · rfl
  · rfl
  · refine touchSlots_trans ?_ (countHeld_frame _ k)
    rfl

/-! ### The gauge -/

theorem handLevel_frame (old : Level) : Frame touchSlots s (s.handLevel old) := by
  unfold State.handLevel
  split
  · rfl
  · dsimp only
    split
    · exact touchSlots_trans (t := s.raise .battery) rfl (criticalEntry_frame _)
    · rfl

theorem takeCurrent_frame (raw : Int) : Frame touchGauge s (s.takeCurrent raw) := by
  unfold State.takeCurrent
  refine touchGauge_trans ?_ (touchSlots_gauge (handLevel_frame _ _))
  rfl

theorem takeVoltage_frame (mv : Nat) : Frame touchGauge s (s.takeVoltage mv) := by
  unfold State.takeVoltage
  refine touchGauge_trans ?_ (touchSlots_gauge (handLevel_frame _ _))
  rfl

theorem putCharge_frame (q : Nat) : Frame touchGauge s (s.putCharge q) := by
  unfold State.putCharge
  refine touchGauge_trans ?_ (touchSlots_gauge (handLevel_frame _ _))
  rfl

theorem gaugeEffects_frame (old : Settings) : Frame touchGauge s (s.gaugeEffects old) := by
  unfold State.gaugeEffects
  dsimp only
  refine touchGauge_trans ?_ (touchSlots_gauge (handLevel_frame _ _))
  have h1 : ∀ (c : Prop) [Decidable c] (u : State) (f : Gauge → Gauge), Frame touchGauge u (if c then u.onGauge f else u) := by
    intro c _ u f
    split <;> rfl
  have h2 : ∀ (c : Prop) [Decidable c] (u : State) (f : Gauge → Gauge),
      Frame touchGauge u (if c then (u.onGauge f).writeChargeCopy else u) := by
    intro c _ u f
    split <;> rfl
  exact touchGauge_trans (h2 _ s _) (touchGauge_trans (h1 _ _ _) (h1 _ _ _))

/-! ### The settings -/

theorem storeSettings_frame (new : Settings) : Frame touchStore s (s.storeSettings new) := by
  unfold State.storeSettings
  dsimp only
  refine Frame.trans (t := s.onRet fun m => { m with settings := new }) (fun _ _ _ => rfl) rfl ?_
  have hg : ∀ u v : State, Frame touchGauge u v → Frame touchStore u v := fun _ _ h => h.weaken fun _ _ => rfl
  have h1 : ∀ (c : Prop) [Decidable c] (u : State), Frame touchStore u
      (if c then u.onFe fun f => f.refill new.window.toNat f.average else u) := by
    intro c _ u
    split <;> rfl
  have h2 : ∀ (c : Prop) [Decidable c] (u : State), Frame touchStore u (if c then u.judgeHolds else u) := by
    intro c _ u
    split <;> [exact hg _ _ (touchSlots_gauge (judgeHolds_frame u)); rfl]
  exact Frame.trans (fun _ _ _ => rfl) (h1 _ _)
    (Frame.trans (fun _ _ _ => rfl) (h2 _ _) (hg _ _ (gaugeEffects_frame _ _)))

/-- The table stored is the table given (R182). -/
theorem storeSettings_settings (new : Settings) : (s.storeSettings new).ret.settings = new := by
  unfold State.storeSettings
  dsimp only
  rw [(gaugeEffects_frame _ _).reads (fun t : State => t.ret.settings) fun _ _ => rfl]
  split <;> split <;> first | rfl | exact (judgeHolds_frame _).reads (fun t : State => t.ret.settings) fun _ _ => rfl

/-- The window takes a new size with its average in every place (R55), and stays where WINDOW does. -/
theorem storeSettings_fe (new : Settings) :
    (s.storeSettings new).fe =
      if s.ret.settings.window ≠ new.window then s.fe.refill new.window.toNat s.fe.average else s.fe := by
  unfold State.storeSettings
  dsimp only
  rw [(gaugeEffects_frame _ _).reads (fun t : State => t.fe) fun _ _ => rfl]
  split <;> split <;> first | rfl | exact (judgeHolds_frame _).reads (fun t : State => t.fe) fun _ _ => rfl

/-! ### Doze control and the monitor -/

theorem wake_frame : Frame touchDoze s s.wake := rfl

theorem fallAsleep_frame : Frame touchDoze s s.fallAsleep := rfl

theorem setMon_frame (st : MonState) (lowRun settle : Nat) : Frame touchMonitor s (s.setMon st lowRun settle) := rfl

theorem departureWakes_frame : Frame touchMonitor s s.departureWakes := by
  unfold State.departureWakes
  split <;> rfl

theorem openRecord_frame (kind : ShockKind) (duration strikes : Nat) :
    Frame touchMonitor s (s.openRecord kind duration strikes) := by
  unfold State.openRecord
  dsimp only
  refine touchMonitor_trans (touchLog_monitor (createShock_frame s (s.newShock kind duration strikes 0 s.heldModules.length) true)) ?_
  generalize s.createShock _ _ = c
  rfl

theorem enterBlind_frame : Frame touchMonitor s s.enterBlind := by
  have h : Frame touchMonitor s ((s.closeOpenRec.openRecord .blind 0 0).blindSignals.setMon .blind 0 0) :=
    touchMonitor_trans (closeOpenRec_frame s)
      (touchMonitor_trans (openRecord_frame _ _ _ _)
        (touchMonitor_trans (touchSlots_monitor (blindSignals_frame _)) (setMon_frame _ _ _ _)))
  unfold State.enterBlind
  dsimp only
  split
  · exact touchMonitor_trans h (departureWakes_frame _)
  · exact h

theorem reportCalm_frame (r : Report) : Frame touchMonitor s (s.reportCalm r) := by
  have h : ∀ u : State, Frame touchMonitor s u → ∀ st lr se,
      Frame touchMonitor s ((u.setMon st lr se).departureSignals.departureWakes) := fun u hu st lr se =>
    touchMonitor_trans hu (touchMonitor_trans (t := u.setMon st lr se) rfl
      (touchMonitor_trans (touchSlots_monitor (departureSignals_frame _)) (departureWakes_frame _)))
  unfold State.reportCalm
  dsimp only
  split
  · exact h _ (touchMonitor_trans (openRecord_frame s _ _ _) (touchSlots_monitor (changeOpenRec_frame _ _))) _ _ _
  · split
    · split
      · exact h _ (openRecord_frame s _ _ _) _ _ _
      · rfl
    · rfl

theorem reportFalling_frame (r : Report) : Frame touchMonitor s (s.reportFalling r) := by
  have h0 := touchSlots_monitor (changeOpenRec_frame s fun k => k.addDuration 1)
  unfold State.reportFalling
  dsimp only
  split
  · exact touchMonitor_trans h0 (touchMonitor_trans (touchSlots_monitor (changeOpenRec_frame _ _)) rfl)
  · split
    · exact touchMonitor_trans h0 rfl
    · exact h0

theorem reportStruck_frame (r : Report) : Frame touchMonitor s (s.reportStruck r) := by
  unfold State.reportStruck
  split
  · exact touchSlots_monitor (changeOpenRec_frame s _)
  · rfl

theorem reportSettling_frame (r : Report) : Frame touchMonitor s (s.reportSettling r) := by
  unfold State.reportSettling
  dsimp only
  generalize (if (r.average : Int) < s.ret.settings.fallLevel then min (s.mon.lowRun + 1) 255 else 0) = low
  generalize (if s.ret.settings.restLow ≤ (r.average : Int) ∧ (r.average : Int) ≤ s.ret.settings.restHigh then min (s.mon.settle + 1) 4095 else 0) = settle
  split
  · exact touchMonitor_trans (touchSlots_monitor (changeOpenRec_frame s _)) rfl
  · split
    · exact touchMonitor_trans (touchSlots_monitor (changeOpenRec_frame s _)) rfl
    · split
      · exact touchMonitor_trans (closeOpenRec_frame s)
          (touchMonitor_trans (t := s.closeOpenRec.setMon .calm 0 0) rfl (touchSlots_monitor (calmSignals_frame _)))
      · rfl

theorem reportBlind_frame (r : Report) : Frame touchMonitor s (s.reportBlind r) := by
  unfold State.reportBlind
  split
  · exact touchMonitor_trans (touchSlots_monitor (changeOpenRec_frame s _))
      (touchMonitor_trans (closeOpenRec_frame _)
        (touchMonitor_trans (t := ((s.changeOpenRec fun k => { k with duration := min r.staleRun 65535 }).closeOpenRec.setMon
          .calm 0 0)) rfl (touchSlots_monitor (resumeAll_frame _))))
  · rfl

/-- A sample report moves nothing but what the monitor reaches (R60). -/
theorem takeReport_frame (r : Report) : Frame touchMonitor s (s.takeReport r) := by
  unfold State.takeReport
  split
  · exact reportBlind_frame s r
  · split <;> [exact enterBlind_frame s; exact reportCalm_frame s r]
  · split <;> [exact enterBlind_frame s; exact reportFalling_frame s r]
  · split <;> [exact enterBlind_frame s; exact reportStruck_frame s r]
  · split <;> [exact enterBlind_frame s; exact reportSettling_frame s r]

/-! ### The tag engine -/

theorem settleRead_frame (r : TagRead) (o : ReadOutcome) : Frame touchRead s (s.settleRead r o) := by
  unfold State.settleRead
  have h : Frame touchRead (s.setRead (some { r with settled := true }))
      ((s.setRead (some { r with settled := true })).readReport o
        { module := r.module, block := r.block, page := some r.page } (r.reportSeq o)) :=
    (readReport_frame _ _ _ _).weaken fun _ _ => rfl
  refine Frame.trans (fun _ _ _ => rfl) ?_ (Frame.trans (fun _ _ _ => rfl) h ?_) <;> rfl

theorem examine_frame (b : Byte) : Frame touchRead s (s.examine b) := by
  unfold State.examine
  split
  · rfl
  · split
    · dsimp only
      split
      · exact settleRead_frame s _ _
      · rfl
    · rfl

theorem loseOrder_frame : Frame touchRead s s.loseOrder := by
  unfold State.loseOrder
  split
  · rfl
  · split <;> rfl

theorem readEnds_frame : Frame touchRead s s.readEnds := by
  unfold State.readEnds
  split
  · rfl
  · split
    · rfl
    · exact settleRead_frame s _ _

theorem streamByte_frame (p : TagProgram) (b : Byte) : Frame touchProgram s (s.streamByte p b) := by
  unfold State.streamByte
  split
  · split
    · dsimp only
      split <;> rfl
    · rfl
  · rfl

theorem completeTag_frame (p : TagProgram) : Frame touchProgram s (s.completeTag p).1 := by
  unfold State.completeTag
  split
  · split <;> rfl
  · rfl

/-! ### Health -/

/-- A busy timeout, as the one update it is (R9, R13 to R15). -/
theorem State.makeStuck_eq :
    s.makeStuck k =
      ((s.onCauses fun p => if s.relay.stuck.get k then p else p ||| AttnCause.moduleStuck.bit).onRelay fun r =>
        { r with stuck := r.stuck.set k true, readyFail := r.readyFail.set k true }).count .timeout := by
  unfold State.makeStuck
  cases h : s.relay.stuck.get k <;> rfl

end Sys2Proof.Machine
end

