-- ==== Sys2Proof/Laws/Effects.lean ====
section
/-! SUPPORT. The machine's shared operations are the effects written out in Safety.lean: a later proof cites these equations and
unfolds neither side. -/

namespace Sys2Proof.Machine

variable (s : State)

/-- A SKIPPED outcome reports nothing to the suspect list. -/
@[simp] theorem State.readReport_skipped (key : SuspectKey) (ws : Option Nat) : s.readReport .skipped key ws = s := by
  unfold State.readReport
  split <;> rfl

/-- A read that ends unsettled is settled SKIPPED, with no report to the suspect list. -/
theorem State.readEnds_of_some {r : TagRead} (h : s.tag.read = some r) :
    s.readEnds =
      if r.settled then s
      else
        { s with
          tag := { s.tag with read := some { r with settled := true } }
          counters := { s.counters with skipped := min (s.counters.skipped + 1) 65535 } } := by
  simp only [State.readEnds, h, State.settleRead, State.readReport_skipped]
  split <;> rfl

/-- What an open code does to the open sequence. -/
theorem State.endForOpen_eq : s.endForOpen = s.ended := by
  rcases hq : s.relay.seq with _ | q
  · simp [State.endForOpen, State.ended, hq, State.onRelay]
  · simp only [State.endForOpen, State.ended, hq, State.endSequence]
    cases hh : q.handling <;> cases hk : q.kind <;> cases hr : s.tag.read <;>
      simp [hq, hh, hk, hr, State.leaveSequence, State.readEnds, State.settleRead, grow16, Counters.set,
        Counters.get, ReadOutcome.counter, State.onRelay, State.onDoze, State.onTag, State.onSvc, State.onCounters,
        State.setProgram, State.setRead, State.idleZero, State.ms, State.count]
    all_goals first | rw [← hr] | (split <;> simp_all)

/-- What a byte out or a taken code does to a nested STATUS. -/
theorem State.endNested_eq : s.endNested = s.nestedEnded := by
  unfold State.endNested State.nestedEnded
  cases s.relay.nested <;> rfl

/-- With no STATUS nested a taken code finds nothing to end. -/
theorem State.endNested_of_none (h : s.relay.nested = none) : s.endNested = s := by
  unfold State.endNested
  rw [h]

/-- The tag completion at the close code: what it sends, the program it leaves, and the counter. -/
theorem State.completeTag_eq (p : TagProgram) :
    (s.completeTag p).1 =
        { s with
          ret := { s.ret with writeSeq := (s.tagCompletion p).2.2 }
          arb := if p.tagged then { s.arb with gapFrom := none } else s.arb
          ports := { s.ports with moduleCycles := s.ports.moduleCycles ++ (s.tagCompletion p).1 } }
      ∧ (s.completeTag p).2.confirm =
        { kind := .program, block := p.block, page := some p.page, tagged := p.tagged
          writeSeq := (s.tagCompletion p).2.1 } := by
  cases ht : p.tagged
  · simp [State.completeTag, State.tagCompletion, ht, TagProgram.confirm]
  · cases hg : p.tag
    · simp [State.completeTag, State.tagCompletion, ht, hg, TagProgram.confirm, State.buildTag, nextWriteSeq,
        State.onRet, State.onPorts, State.onArb, columnMoveCycles, ChannelCode.byte, Config.maxWord32]
      split <;> simp_all
    · simp [State.completeTag, State.tagCompletion, ht, hg, TagProgram.confirm, State.onPorts, State.onArb,
        Config.dataColumns]

/-- A level that changed is handed on. -/
theorem State.handLevel_eq (old : Level) : s.handLevel old = s.levelHanded old := by
  simp only [State.handLevel, State.levelHanded, Gauge.level, State.raise, State.onCauses, AttnCause.bit]
  rfl

/-- What a change of the settings does to the gauge. -/
theorem State.gaugeEffects_eq (old : Settings) :
    s.gaugeEffects old =
      State.levelHanded
        { s with
          ret :=
            { s.ret with
              chargeCopy :=
                if old.capacity = s.ret.settings.capacity then s.ret.chargeCopy
                else
                  { q := min s.gauge.q (s.ret.settings.capacity.toNat * 3600000), underrun := s.gauge.underrun
                    unknown := s.gauge.unknown } }
          gauge :=
            { s.gauge with
              q :=
                if old.capacity = s.ret.settings.capacity then s.gauge.q
                else min s.gauge.q (s.ret.settings.capacity.toNat * 3600000)
              chargeLow :=
                if old.capacity = s.ret.settings.capacity ∧ old.reserve = s.ret.settings.reserve then s.gauge.chargeLow
                else
                  decide
                    ((if old.capacity = s.ret.settings.capacity then s.gauge.q
                      else min s.gauge.q (s.ret.settings.capacity.toNat * 3600000)) <
                      s.ret.settings.reserve.toNat * 3600000)
              voltageLow :=
                if old.critMv = s.ret.settings.critMv then s.gauge.voltageLow
                else decide ((s.gauge.vSum / 16 : Nat) < s.ret.settings.critMv) } }
        s.gauge.level := by
  unfold State.gaugeEffects
  simp only [State.handLevel_eq]
  by_cases h1 : old.capacity = s.ret.settings.capacity <;> by_cases h2 : old.reserve = s.ret.settings.reserve <;>
    by_cases h3 : old.critMv = s.ret.settings.critMv <;>
      simp [h1, h2, h3, State.onGauge, State.onRet, State.writeChargeCopy, chargeAfresh, voltageAfresh, Settings.full,
        Settings.reserveCharge, Gauge.vAverage, Config.voltagePlaces, Config.microCoulombPerMah]

/-- A change of the settings with all its effects. -/
theorem State.storeSettings_eq (new : Settings) : s.storeSettings new = s.settingsStored new := by
  simp only [State.storeSettings, State.gaugeEffects_eq, State.settingsStored]
  by_cases h1 : s.ret.settings.window = new.window <;> by_cases h2 : s.ret.settings.holdLimit = new.holdLimit <;>
    by_cases h3 : s.ret.settings.capacity = new.capacity <;>
    simp only [h1, h2, h3, ne_eq, not_true_eq_false, not_false_eq_true, if_true, if_false, State.onRet, State.onFe,
      FrontEnd.refill, FrontEnd.average]
  all_goals
    rw [(judgeHolds_frame _).reads (fun t : State => t.gauge) fun _ _ => rfl,
      (judgeHolds_frame _).reads (fun t : State => t.ret.settings) fun _ _ => rfl,
      (judgeHolds_frame _).reads (fun t : State => t.ret.chargeCopy) fun _ _ => rfl]
    simp only [h3, if_true, if_false]

/-- A change of the monitor's open record. -/
theorem State.changeOpenRec_eq (f : ShockRec → ShockRec) : s.changeOpenRec f = s.openRecChanged f := by
  have hn : ∀ (n : Nat) (r : ShockRec), (some n = some r.number) = (r.number = n) := fun n r =>
    propext ⟨fun h => (Option.some.inj h).symm, fun h => h ▸ rfl⟩
  cases h : s.mon.openRec <;>
    simp only [State.changeOpenRec, State.openRecChanged, State.changeShock, State.onRet, h, hn, reduceCtorEq, false_and,
      if_false, List.map_id']

/-- The close of the monitor's open record. -/
theorem State.closeOpenRec_eq : s.closeOpenRec = s.openRecClosed := by
  simp only [State.closeOpenRec, State.changeOpenRec_eq]; rfl

/-- A record the monitor opens without a strike. -/
theorem State.openRecord_eq (kind : ShockKind) (duration : Nat) :
    s.openRecord kind duration 0 = s.recordOpened kind duration none := by
  unfold State.openRecord State.recordOpened State.createShock State.newShock State.heldModules
  simp only [Config.maxWord32, Config.shockPlaces, grow16, State.permille, Settings.full, Config.microCoulombPerMah]
  by_cases h : s.ret.epoch < 4294967295 <;> by_cases hf : 32 ≤ s.ret.shocks.length <;>
    simp [h, hf, State.onRet, State.onMon, State.onCauses, State.raise, AttnCause.bit, BitVec.or_assoc]

/-- A request for each module of a list in turn. -/
theorem queueRequest_foldl (ks : List ModuleId) (kind : InsertKind) (cause : Option ReleaseCause) (q : List Insert) :
    ks.foldl (fun q k => queueRequest q { module := k, kind := kind, cause := cause }) q = requested q ks kind cause := rfl

/-! ### Counters (R23, R40, R48, R104, R126) -/

/-- A counter that grows stays in its range. -/
theorem grow16_le (n : Nat) : grow16 n ≤ 65535 := by simp only [grow16]; omega

/-- A counter set to a value in range leaves every counter in range. -/
theorem Counters.get_set_le {c : Counters} {i : CounterId} {n : Nat} (hc : ∀ j, c.get j ≤ 65535) (hn : n ≤ 65535)
    (j : CounterId) : (c.set i n).get j ≤ 65535 := by
  have := hc j
  cases i <;> cases j <;> simp_all [Counters.set, Counters.get]

/-- Every count keeps the counters in range. -/
theorem State.CountersInRange.count {s : State} (h : s.CountersInRange) (i : CounterId) : (s.count i).CountersInRange :=
  Counters.get_set_le h (grow16_le _)

/-! ### Codes and cycles without a place (R3) -/

/-- Each code byte of R196 picks its own code's command. -/
@[simp] theorem codeCommand_byte (code : ChannelCode) (col : BitVec 16) : codeCommand code.byte col = code.command col := by
  cases code <;> rfl

/-- A word of one code byte spells the byte's command (R196). -/
@[simp] theorem decodeTableWord_byte (c : Byte) : decodeTableWord 8 c.toNat = some (codeCommand c 0) := by
  have h : c.toNat < 256 := c.isLt
  simp [decodeTableWord, h]

/-- A code byte placed as the next command is that byte's command at the front of the queue. -/
@[simp] theorem State.withFetchWord_byte (c : Byte) :
    s.withFetchWord 8 c.toNat = { s with pending := codeCommand c 0 :: s.pending } := by
  simp [State.withFetchWord]

/-- A stray cycle: the first is counted. -/
theorem State.strayCycle_eq :
    s.strayCycle =
      { s with
        relay := { s.relay with stray := true }
        counters :=
          if s.relay.stray then s.counters
          else { s.counters with protocol := min (s.counters.protocol + 1) 65535 } } := by
  cases h : s.relay.stray
  · simp [State.strayCycle, h, grow16, Counters.set, Counters.get, State.onRelay, State.onCounters]
  · have hr : s.relay = { s.relay with stray := true } := by rw [← h]
    simp only [State.strayCycle, h, if_true]
    rw [← hr]

/-- What a sequence counts once. -/
theorem State.countOnce_eq {q : Seq} (h : s.relay.seq = some q) :
    s.countOnce q =
      { s with
        relay := { s.relay with seq := some { q with counted := true } }
        counters :=
          if q.counted then s.counters
          else { s.counters with protocol := min (s.counters.protocol + 1) 65535 } } := by
  cases hc : q.counted
  · simp [State.countOnce, hc, grow16, Counters.set, Counters.get, State.onRelay, State.onCounters]
  · have hq : { q with counted := true } = q := by rw [← hc]
    simp only [State.countOnce, hc, if_true, hq, ← h]

/-- Outside an address phase a code with no place is counted. -/
theorem State.unplacedArrives_counted (closes : Option SeqKind) (ha : s.relay.absorb = false)
    (h : s.relay.nested ≠ none ∨ ∀ q, s.relay.seq = some q → q.handling ≠ .latching) :
    s.unplacedArrives closes = s.count .protocol := by
  unfold State.unplacedArrives
  split
  · simp_all
  · split
    · split <;> simp_all
    · rfl

/-- In an address phase a code with no place discards the sequence, counted, and the close code of a program or erase ends it. -/
theorem State.unplacedArrives_cut (closes : Option SeqKind) {q : Seq} (h : s.InSequence q) (hq : q.handling = .latching) :
    s.unplacedArrives closes =
      if closes = some q.kind ∧ q.kind ≠ .read then (s.cutAddress q).endSequence else s.cutAddress q := by
  simp [State.unplacedArrives, h.1, h.2.1, h.2.2, hq]

end Sys2Proof.Machine
end

