-- ==== Sys2Proof/WellFormed.lean ====
section
/-! DEFINITION. Which terms of `Instr` are commands of the channel. -/

namespace Sys2Proof

/-- The one operand that can be ill formed: an UNPLACED_CODE names a byte that is no open code, because an open code always
has a place (R2, R3). Every other operand's type holds exactly the values its row admits. -/
def Instr.wf : Instr → Bool
  | .unplacedCode c =>
    match Machine.channelCodeOf c with
    | some code => !code.isOpenCode
    | none => true
  | .readOpen => true
  | .programOpen => true
  | .eraseOpen => true
  | .identify => true
  | .status => true
  | .moduleReset => true
  | .suspend => true
  | .resume => true
  | .addressCycle _ => true
  | .columnMove _ => true
  | .dataInCycle _ => true
  | .dataOutStrobe _ => true
  | .readClose => true
  | .programClose => true
  | .eraseClose => true
  | .ceAssert _ => true
  | .ceDeassert _ => true
  | .moduleReadyReturn _ => true
  | .readBusyTimeout _ => true
  | .resetBusyTimeout _ => true
  | .residualBusyTimeout _ => true
  | .busyTimerExpiry _ => true
  | .holdLimitExpiry _ => true
  | .insertStart => true
  | .statusCheckComplete _ => true
  | .suspendComplete _ => true
  | .resumeComplete => true
  | .releaseComplete => true
  | .pollDue => true
  | .sampleArrival _ => true
  | .currentSampleDue => true
  | .currentSampleArrival _ => true
  | .voltageSampleDue => true
  | .voltageSampleArrival _ => true
  | .qCopyDue => true
  | .stampSecond => true
  | .stampCopyDue => true
  | .dozeEntry => true
  | .powerLoss => true
  | .powerOn _ => true
  | .resetAssert => true
  | .resetRelease _ => true
  | .setSetting => true
  | .modifyAttention => true
  | .setStamp => true
  | .setCharge => true
  | .markFull => true
  | .releaseSuspect => true
  | .clearShockLog => true
  | .releaseHolds => true
  | .clearCounters => true
  | .restoreDefaults => true
  | .reportPage1 => true
  | .reportPage2 => true
  | .reportPage3 => true
  | .reportPage4 => true
  | .reportPage5 => true
  | .reportPage6 => true
  | .reportPage7 => true
  | .serviceProcessingEnd => true

end Sys2Proof
end

