-- ==== Sys2Proof/Laws/PerInstr.lean ====
section
/-! SUPPORT. The family `Operand`: what a command's operands may be, one lemma a constructor. -/

namespace Sys2Proof.Laws.Operand

/-- A command is well formed whatever its operands, but for an UNPLACED_CODE, which is well formed exactly where its byte spells
no open code (R2, R3). -/
def Statement (i : Sys2Proof.Instr) : Prop :=
  (i.wf = true ↔ ∀ c code, i = .unplacedCode c → Sys2Proof.Machine.channelCodeOf c = some code → code.isOpenCode = false)

/-- A command other than UNPLACED_CODE that is well formed. -/
theorem of_wf {i : Sys2Proof.Instr} (h : i.wf = true) (other : ∀ c, i ≠ .unplacedCode c) : Statement i :=
  ⟨fun _ c _ heq _ => absurd heq (other c), fun _ => h⟩

theorem readOpen : Statement .readOpen := of_wf rfl nofun

theorem programOpen : Statement .programOpen := of_wf rfl nofun

theorem eraseOpen : Statement .eraseOpen := of_wf rfl nofun

theorem identify : Statement .identify := of_wf rfl nofun

theorem status : Statement .status := of_wf rfl nofun

theorem moduleReset : Statement .moduleReset := of_wf rfl nofun

theorem suspend : Statement .suspend := of_wf rfl nofun

theorem resume : Statement .resume := of_wf rfl nofun

theorem addressCycle (b : Sys2Proof.Byte) : Statement (.addressCycle b) := of_wf rfl nofun

theorem columnMove (col : BitVec 16) : Statement (.columnMove col) := of_wf rfl nofun

theorem dataInCycle (b : Sys2Proof.Byte) : Statement (.dataInCycle b) := of_wf rfl nofun

theorem dataOutStrobe (b : Sys2Proof.Byte) : Statement (.dataOutStrobe b) := of_wf rfl nofun

theorem readClose : Statement .readClose := of_wf rfl nofun

theorem programClose : Statement .programClose := of_wf rfl nofun

theorem eraseClose : Statement .eraseClose := of_wf rfl nofun

theorem unplacedCode (c : Sys2Proof.Byte) : Statement (.unplacedCode c) := by
  have e : Sys2Proof.Instr.wf (.unplacedCode c) =
      (match Sys2Proof.Machine.channelCodeOf c with
      | some code => !code.isOpenCode
      | none => true) := rfl
  refine ⟨?_, ?_⟩
  · rintro h c' code heq hc
    cases heq
    rw [e, hc] at h
    simpa using h
  · intro h
    rw [e]
    cases hc : Sys2Proof.Machine.channelCodeOf c with
    | none => rfl
    | some code => simpa using h c code rfl hc

theorem ceAssert (k : Sys2Proof.ModuleId) : Statement (.ceAssert k) := of_wf rfl nofun

theorem ceDeassert (k : Sys2Proof.ModuleId) : Statement (.ceDeassert k) := of_wf rfl nofun

theorem moduleReadyReturn (k : Sys2Proof.ModuleId) : Statement (.moduleReadyReturn k) := of_wf rfl nofun

theorem readBusyTimeout (k : Sys2Proof.ModuleId) : Statement (.readBusyTimeout k) := of_wf rfl nofun

theorem resetBusyTimeout (k : Sys2Proof.ModuleId) : Statement (.resetBusyTimeout k) := of_wf rfl nofun

theorem residualBusyTimeout (k : Sys2Proof.ModuleId) : Statement (.residualBusyTimeout k) := of_wf rfl nofun

theorem busyTimerExpiry (k : Sys2Proof.ModuleId) : Statement (.busyTimerExpiry k) := of_wf rfl nofun

theorem holdLimitExpiry (k : Sys2Proof.ModuleId) : Statement (.holdLimitExpiry k) := of_wf rfl nofun

theorem insertStart : Statement .insertStart := of_wf rfl nofun

theorem statusCheckComplete (b : Sys2Proof.Byte) : Statement (.statusCheckComplete b) := of_wf rfl nofun

theorem suspendComplete (ready : Bool) : Statement (.suspendComplete ready) := of_wf rfl nofun

theorem resumeComplete : Statement .resumeComplete := of_wf rfl nofun

theorem releaseComplete : Statement .releaseComplete := of_wf rfl nofun

theorem pollDue : Statement .pollDue := of_wf rfl nofun

theorem sampleArrival (r : Sys2Proof.SensorReply) : Statement (.sampleArrival r) := of_wf rfl nofun

theorem currentSampleDue : Statement .currentSampleDue := of_wf rfl nofun

theorem currentSampleArrival (raw : BitVec 16) : Statement (.currentSampleArrival raw) := of_wf rfl nofun

theorem voltageSampleDue : Statement .voltageSampleDue := of_wf rfl nofun

theorem voltageSampleArrival (mv : BitVec 16) : Statement (.voltageSampleArrival mv) := of_wf rfl nofun

theorem qCopyDue : Statement .qCopyDue := of_wf rfl nofun

theorem stampSecond : Statement .stampSecond := of_wf rfl nofun

theorem stampCopyDue : Statement .stampCopyDue := of_wf rfl nofun

theorem dozeEntry : Statement .dozeEntry := of_wf rfl nofun

theorem powerLoss : Statement .powerLoss := of_wf rfl nofun

theorem powerOn (inp : Sys2Proof.ResetInputs) : Statement (.powerOn inp) := of_wf rfl nofun

theorem resetAssert : Statement .resetAssert := of_wf rfl nofun

theorem resetRelease (inp : Sys2Proof.ResetInputs) : Statement (.resetRelease inp) := of_wf rfl nofun

theorem setSetting : Statement .setSetting := of_wf rfl nofun

theorem modifyAttention : Statement .modifyAttention := of_wf rfl nofun

theorem setStamp : Statement .setStamp := of_wf rfl nofun

theorem setCharge : Statement .setCharge := of_wf rfl nofun

theorem markFull : Statement .markFull := of_wf rfl nofun

theorem releaseSuspect : Statement .releaseSuspect := of_wf rfl nofun

theorem clearShockLog : Statement .clearShockLog := of_wf rfl nofun

theorem releaseHolds : Statement .releaseHolds := of_wf rfl nofun

theorem clearCounters : Statement .clearCounters := of_wf rfl nofun

theorem restoreDefaults : Statement .restoreDefaults := of_wf rfl nofun

theorem reportPage1 : Statement .reportPage1 := of_wf rfl nofun

theorem reportPage2 : Statement .reportPage2 := of_wf rfl nofun

theorem reportPage3 : Statement .reportPage3 := of_wf rfl nofun

theorem reportPage4 : Statement .reportPage4 := of_wf rfl nofun

theorem reportPage5 : Statement .reportPage5 := of_wf rfl nofun

theorem reportPage6 : Statement .reportPage6 := of_wf rfl nofun

theorem reportPage7 : Statement .reportPage7 := of_wf rfl nofun

theorem serviceProcessingEnd : Statement .serviceProcessingEnd := of_wf rfl nofun

end Sys2Proof.Laws.Operand
end

