-- ==== Sys2Proof/Laws/Queues.lean ====
section
/-! SUPPORT. What the operations of the three bounded lists keep: the insert queue one entry per module (R20), the suspect list one
entry per key and at most 48 (R142, R144), the shock log its order and its bound (R155 to R158). -/

namespace Sys2Proof.Machine

/-! ### The insert queue -/

/-- A request leaves the modules of the queue as they stand, or adds its own at the tail (R20). -/
theorem queueRequest_modules (q : List Insert) (e : Insert) :
    (queueRequest q e).map Insert.module =
      if e.module ∈ q.map Insert.module then q.map Insert.module else q.map Insert.module ++ [e.module] := by
  unfold queueRequest
  by_cases h : e.module ∈ q.map Insert.module
  · have ha : (q.any fun x => decide (x.module = e.module)) = true := by simpa [List.any_eq_true] using h
    rw [if_pos ha, if_pos h, List.map_map]
    refine List.map_congr_left fun x _ => ?_
    simp only [Function.comp]
    split <;> simp_all
  · have ha : ¬(q.any fun x => decide (x.module = e.module)) = true := by simpa [List.any_eq_true] using h
    rw [if_neg ha, if_neg h]
    simp

theorem queueRequest_nodup {q : List Insert} (h : (q.map Insert.module).Nodup) (e : Insert) :
    ((queueRequest q e).map Insert.module).Nodup := by
  rw [queueRequest_modules]
  split
  · exact h
  · rename_i hx
    exact List.nodup_append.2 ⟨h, by simp, fun a ha b hb => by
      rw [List.mem_singleton] at hb
      rintro rfl
      exact hx (hb ▸ ha)⟩

theorem queueWithdraw_nodup {q : List Insert} (h : (q.map Insert.module).Nodup) (k : ModuleId) :
    ((queueWithdraw q k).map Insert.module).Nodup :=
  h.sublist ((List.filter_sublist).map Insert.module)

/-! ### The suspect list -/

theorem findSuspect_none {l : List Suspect} {key : SuspectKey} : findSuspect l key = none ↔ ∀ e ∈ l, e.key ≠ key := by
  simp [findSuspect]

theorem findSuspect_some {l : List Suspect} {key : SuspectKey} {e : Suspect} (h : findSuspect l key = some e) :
    e ∈ l ∧ e.key = key := by
  unfold findSuspect at h
  exact ⟨List.mem_of_find?_eq_some h, by simpa using List.find?_some h⟩

/-- A replacement keeps every key in its place (R142). -/
theorem replaceSuspect_keys (l : List Suspect) (e : Suspect) : (replaceSuspect l e).map Suspect.key = l.map Suspect.key := by
  unfold replaceSuspect
  rw [List.map_map]
  refine List.map_congr_left fun x _ => ?_
  simp only [Function.comp]
  split <;> simp_all

theorem mergeSuspect_key {entry req : Suspect} (h : entry.key = req.key) : (mergeSuspect entry req).key = req.key := by
  unfold mergeSuspect
  split <;> simp [h]

/-- A request leaves the keys of the list as they stand, or adds its own at the end where a place is free (R144, R145). -/
theorem addSuspect_keys (l : List Suspect) (overflow : Nat) (req : Suspect) :
    (addSuspect l overflow req).1.map Suspect.key =
      if (findSuspect l req.key).isNone ∧ l.length < Config.suspectPlaces then l.map Suspect.key ++ [req.key]
      else l.map Suspect.key := by
  unfold addSuspect
  cases h : findSuspect l req.key with
  | some e => simp [replaceSuspect_keys]
  | none =>
    dsimp only
    split <;> simp_all

/-- The list after a request holds an entry of its key, unless it was full (R144). -/
theorem addSuspect_mem (l : List Suspect) (overflow : Nat) (req : Suspect) :
    (∃ e ∈ (addSuspect l overflow req).1, e.key = req.key) ∨ Config.suspectPlaces ≤ l.length := by
  unfold addSuspect
  cases h : findSuspect l req.key with
  | some e =>
    obtain ⟨h1, h2⟩ := findSuspect_some h
    left
    have : e.key ∈ (replaceSuspect l (mergeSuspect e req)).map Suspect.key := by
      rw [replaceSuspect_keys]
      exact List.mem_map_of_mem h1
    obtain ⟨x, hx, hk⟩ := List.mem_map.1 this
    exact ⟨x, hx, hk.trans h2⟩
  | none =>
    dsimp only
    split
    · exact .inl ⟨req, by simp, rfl⟩
    · exact .inr (by omega)

/-- The overflow count stays in its range (R144). -/
theorem addSuspect_overflow {l : List Suspect} {overflow : Nat} (h : overflow ≤ 255) (req : Suspect) :
    (addSuspect l overflow req).2.1 ≤ 255 := by
  unfold addSuspect
  cases findSuspect l req.key with
  | some e => exact h
  | none =>
    dsimp only
    split
    · exact h
    · simp only
      omega

/-- The keys and the bound of the suspect list, apart from the state that holds it (R142). -/
def Keyed (l : List Suspect) : Prop := l.length ≤ Config.suspectPlaces ∧ (l.map Suspect.key).Nodup

theorem keyed_of_keys {l l' : List Suspect} (h : l'.map Suspect.key = l.map Suspect.key) (hk : Keyed l) : Keyed l' := by
  have hl : l'.length = l.length := by simpa using congrArg List.length h
  exact ⟨hl ▸ hk.1, h ▸ hk.2⟩

theorem keyed_filter {l : List Suspect} (h : Keyed l) (p : Suspect → Bool) : Keyed (l.filter p) :=
  ⟨le_trans (List.length_filter_le _ _) h.1, h.2.sublist (List.filter_sublist.map _)⟩

theorem addSuspect_keyed {l : List Suspect} (h : Keyed l) (overflow : Nat) (req : Suspect) :
    Keyed (addSuspect l overflow req).1 := by
  have hk := addSuspect_keys l overflow req
  have hl := congrArg List.length hk
  unfold Keyed
  rw [hk]
  rw [List.length_map] at hl
  split at hl
  · rename_i hx
    rw [if_pos hx]
    refine ⟨?_, List.nodup_append.2 ⟨h.2, by simp, fun a ha b hb => ?_⟩⟩
    · simp only [List.length_append, List.length_map, List.length_singleton] at hl
      omega
    · rw [List.mem_singleton] at hb
      subst hb
      obtain ⟨e, he, rfl⟩ := List.mem_map.1 ha
      exact findSuspect_none.1 (Option.isNone_iff_eq_none.1 hx.1) e he
  · rename_i hx
    rw [if_neg hx]
    exact ⟨by rw [hl, List.length_map]; exact h.1, h.2⟩

/-! ### The shock log -/

/-- The numbers and the bound of the shock log under an epoch (R155, R156). -/
def Ordered (l : List ShockRec) (epoch : Nat) : Prop :=
  l.length ≤ Config.shockPlaces ∧ (l.map ShockRec.number).Pairwise (· < ·) ∧ ∀ r ∈ l, 1 ≤ r.number ∧ r.number ≤ epoch

theorem ordered_sublist {l l' : List ShockRec} {epoch : Nat} (hs : l'.Sublist l) (h : Ordered l epoch) : Ordered l' epoch :=
  ⟨le_trans hs.length_le h.1, h.2.1.sublist (hs.map _), fun r hr => h.2.2 r (hs.subset hr)⟩

/-- A change of records that keeps their numbers keeps the order (R158). -/
theorem ordered_map {l : List ShockRec} {epoch : Nat} (h : Ordered l epoch) {f : ShockRec → ShockRec}
    (hf : ∀ r, (f r).number = r.number) : Ordered (l.map f) epoch := by
  refine ⟨by simpa using h.1, ?_, ?_⟩
  · rw [List.map_map]
    have : ShockRec.number ∘ f = ShockRec.number := funext hf
    rw [this]
    exact h.2.1
  · intro r hr
    obtain ⟨x, hx, rfl⟩ := List.mem_map.1 hr
    rw [hf]
    exact h.2.2 x hx

/-- A new record with the next number keeps the order where a place is free (R156). -/
theorem ordered_snoc {l : List ShockRec} {epoch : Nat} (h : Ordered l epoch) (hl : l.length < Config.shockPlaces)
    (r : ShockRec) : Ordered (l ++ [{ r with number := epoch + 1 }]) (epoch + 1) := by
  refine ⟨by simp; omega, ?_, ?_⟩
  · rw [List.map_append, List.pairwise_append]
    refine ⟨h.2.1, by simp, ?_⟩
    intro a ha b hb
    obtain ⟨x, hx, rfl⟩ := List.mem_map.1 ha
    simp only [List.map_cons, List.map_nil, List.mem_singleton] at hb
    subst hb
    have := (h.2.2 x hx).2
    omega
  · intro x hx
    rcases List.mem_append.1 hx with hx | hx
    · have := h.2.2 x hx
      omega
    · rw [List.mem_singleton] at hx
      subst hx
      exact ⟨by simp, by simp⟩

theorem ShocksOrdered_iff (s : State) :
    s.ShocksOrdered ↔ Ordered s.ret.shocks s.ret.epoch ∧ s.ret.epoch ≤ Config.maxWord32 ∧ s.ret.overwritten ≤ 65535 := by
  unfold State.ShocksOrdered Ordered
  constructor
  · rintro ⟨a, b, c, d, e⟩
    exact ⟨⟨a, b, c⟩, d, e⟩
  · rintro ⟨⟨a, b, c⟩, d, e⟩
    exact ⟨a, b, c, d, e⟩

/-- The log keeps its order through a creation (R156, R157, R159). -/
theorem createShock_ordered (s : State) (h : s.ShocksOrdered) (r : ShockRec) (raises : Bool) :
    (s.createShock r raises).1.ShocksOrdered := by
  rw [ShocksOrdered_iff] at h
  obtain ⟨ho, he, hw⟩ := h
  have hg : grow16 s.ret.overwritten ≤ 65535 := by unfold grow16; omega
  have hr : ∀ (u : State) (c : Prop) [Decidable c] (a : AttnCause), (if c then u.raise a else u).ret = u.ret := by
    intro u c _ a
    split <;> rfl
  have hs : ∀ u v : State, u.ret = v.ret → v.ShocksOrdered → u.ShocksOrdered := by
    intro u v huv hv
    unfold State.ShocksOrdered
    rw [huv]
    exact hv
  unfold State.createShock
  split
  · rename_i hlt
    dsimp only
    refine hs _ _ (hr _ _ _) (hs _ _ (hr _ _ _) ?_)
    rw [ShocksOrdered_iff]
    have hlt' : s.ret.epoch + 1 ≤ Config.maxWord32 := hlt
    by_cases hf : Config.shockPlaces ≤ s.ret.shocks.length
    · simp only [State.onRet, hf, decide_true, if_true]
      refine ⟨ordered_snoc (ordered_sublist (List.tail_sublist _) ho) ?_ r, hlt', hg⟩
      have := ho.1
      simp only [List.length_tail]
      have hp : Config.shockPlaces = 32 := rfl
      omega
    · simp only [State.onRet, hf, decide_false]
      exact ⟨ordered_snoc ho (by omega) r, hlt', hw⟩
  · dsimp only
    refine hs _ _ (hr _ _ _) ?_
    rw [ShocksOrdered_iff]
    exact ⟨ho, he, hg⟩

end Sys2Proof.Machine
end

