-- ==== Sys2Proof/Laws/Settings.lean ====
section
/-! SUPPORT. The settings table: what being inside the ranges says field by field, and that storing a value brought into its range
keeps it (R182 to R184). -/

namespace Sys2Proof.Machine

/-- A value clamped lies in its range. -/
theorem clampInt_mem {lo hi v : Int} (h : lo ≤ hi) : lo ≤ clampInt lo hi v ∧ clampInt lo hi v ≤ hi := by
  unfold clampInt
  split <;> [omega; split <;> omega]

/-- The clamp as a minimum and a maximum. -/
theorem clampInt_eq {lo hi v : Int} (h : lo ≤ hi) : clampInt lo hi v = max lo (min hi v) := by
  unfold clampInt
  split <;> [omega; split <;> omega]

/-- Allowed is inside the range, but for WINDOW (R181). -/
theorem SettingId.allows_iff {i : SettingId} (t : Settings) (v : Int) (hi : i ≠ .window) :
    i.allows t v = true ↔ (i.range t).1 ≤ v ∧ v ≤ (i.range t).2 := by
  cases i <;> first | exact absurd rfl hi | simp only [SettingId.allows, Bool.and_eq_true, decide_eq_true_eq]

/-- The three sizes of WINDOW (R181). -/
theorem SettingId.allows_window (t : Settings) (v : Int) : SettingId.window.allows t v = true ↔ v = 8 ∨ v = 16 ∨ v = 32 := by
  simp only [SettingId.allows, Bool.or_eq_true, decide_eq_true_eq, or_assoc]

theorem Settings.wf_iff_allows (t : Settings) : t.wf = true ↔ ∀ i : SettingId, i.allows t (t.get i) = true := by
  simp only [Settings.wf, List.all_eq_true]
  exact ⟨fun h i => h i (by cases i <;> decide), fun h i _ => h i⟩

/-- The ranges of the settings table, field by field (R181, R184). -/
structure Settings.InRange (t : Settings) : Prop where
  window : t.window = 8 ∨ t.window = 16 ∨ t.window = 32
  fallLevel : 0 ≤ t.fallLevel ∧ t.fallLevel ≤ 255
  fallExit : t.fallLevel + 1 ≤ t.fallExit ∧ t.fallExit ≤ 511
  fallConfirm : 1 ≤ t.fallConfirm ∧ t.fallConfirm ≤ 255
  impactLevel : 256 ≤ t.impactLevel ∧ t.impactLevel ≤ 6144
  restLow : 0 ≤ t.restLow ∧ t.restLow ≤ 1023
  restHigh : t.restLow + 1 ≤ t.restHigh ∧ t.restHigh ≤ 2047
  settleCount : 16 ≤ t.settleCount ∧ t.settleCount ≤ 4095
  holdLimit : 100 ≤ t.holdLimit ∧ t.holdLimit ≤ 5000
  accGainX : 0 ≤ t.accGainX ∧ t.accGainX ≤ 2047
  accGainY : 0 ≤ t.accGainY ∧ t.accGainY ≤ 2047
  accGainZ : 0 ≤ t.accGainZ ∧ t.accGainZ ≤ 2047
  accOffsetX : -256 ≤ t.accOffsetX ∧ t.accOffsetX ≤ 255
  accOffsetY : -256 ≤ t.accOffsetY ∧ t.accOffsetY ≤ 255
  accOffsetZ : -256 ≤ t.accOffsetZ ∧ t.accOffsetZ ≤ 255
  capacity : 100 ≤ t.capacity ∧ t.capacity ≤ 40000
  reserve : 0 ≤ t.reserve ∧ t.reserve ≤ 5000
  critMv : 2800 ≤ t.critMv ∧ t.critMv ≤ 3600
  curGain : 0 ≤ t.curGain ∧ t.curGain ≤ 32767
  curOffset : -512 ≤ t.curOffset ∧ t.curOffset ≤ 511
  attnEnable : 0 ≤ t.attnEnable ∧ t.attnEnable ≤ 255
  dozeDelay : 100 ≤ t.dozeDelay ∧ t.dozeDelay ≤ 60000
  counterClearOnRead : 0 ≤ t.counterClearOnRead ∧ t.counterClearOnRead ≤ 1

/-- `wf` says exactly that every stored value lies in its range. -/
theorem Settings.wf_iff (t : Settings) : t.wf = true ↔ t.InRange := by
  rw [Settings.wf_iff_allows]
  constructor
  · intro h
    have r : ∀ i : SettingId, i ≠ .window → (i.range t).1 ≤ t.get i ∧ t.get i ≤ (i.range t).2 := fun i hi =>
      (SettingId.allows_iff t _ hi).1 (h i)
    have hw : t.window = 8 ∨ t.window = 16 ∨ t.window = 32 := (SettingId.allows_window t _).1 (h .window)
    exact
      { window := hw
        fallLevel := r .fallLevel (by decide)
        fallExit := r .fallExit (by decide)
        fallConfirm := r .fallConfirm (by decide)
        impactLevel := r .impactLevel (by decide)
        restLow := r .restLow (by decide)
        restHigh := r .restHigh (by decide)
        settleCount := r .settleCount (by decide)
        holdLimit := r .holdLimit (by decide)
        accGainX := r .accGainX (by decide)
        accGainY := r .accGainY (by decide)
        accGainZ := r .accGainZ (by decide)
        accOffsetX := r .accOffsetX (by decide)
        accOffsetY := r .accOffsetY (by decide)
        accOffsetZ := r .accOffsetZ (by decide)
        capacity := r .capacity (by decide)
        reserve := r .reserve (by decide)
        critMv := r .critMv (by decide)
        curGain := r .curGain (by decide)
        curOffset := r .curOffset (by decide)
        attnEnable := r .attnEnable (by decide)
        dozeDelay := r .dozeDelay (by decide)
        counterClearOnRead := r .counterClearOnRead (by decide) }
  · intro h i
    by_cases hi : i = .window
    · subst hi
      exact (SettingId.allows_window t _).2 h.window
    · refine (SettingId.allows_iff t _ hi).2 ?_
      cases i with
      | window => exact absurd rfl hi
      | fallLevel => exact h.fallLevel
      | fallExit => exact h.fallExit
      | fallConfirm => exact h.fallConfirm
      | impactLevel => exact h.impactLevel
      | restLow => exact h.restLow
      | restHigh => exact h.restHigh
      | settleCount => exact h.settleCount
      | holdLimit => exact h.holdLimit
      | accGainX => exact h.accGainX
      | accGainY => exact h.accGainY
      | accGainZ => exact h.accGainZ
      | accOffsetX => exact h.accOffsetX
      | accOffsetY => exact h.accOffsetY
      | accOffsetZ => exact h.accOffsetZ
      | capacity => exact h.capacity
      | reserve => exact h.reserve
      | critMv => exact h.critMv
      | curGain => exact h.curGain
      | curOffset => exact h.curOffset
      | attnEnable => exact h.attnEnable
      | dozeDelay => exact h.dozeDelay
      | counterClearOnRead => exact h.counterClearOnRead

/-- A setting's range is not empty while the table is in range. -/
theorem SettingId.range_le {t : Settings} (h : t.InRange) (i : SettingId) : (i.range t).1 ≤ (i.range t).2 := by
  have h1 := h.fallLevel
  have h2 := h.restLow
  cases i <;> simp only [SettingId.range] <;> omega

theorem SettingId.bring_eq {i : SettingId} (t : Settings) (v : Int) (hi : i ≠ .window) :
    i.bring t v = clampInt (i.range t).1 (i.range t).2 v := by
  cases i <;> first | exact absurd rfl hi | rfl

/-- WINDOW is brought to one of its three sizes (R183). -/
theorem SettingId.bring_window (t : Settings) (v : Int) :
    SettingId.window.bring t v = 8 ∨ SettingId.window.bring t v = 16 ∨ SettingId.window.bring t v = 32 := by
  simp only [SettingId.bring]
  split <;> [simp; split <;> simp]

/-- Storing a value brought into its setting's range keeps the table in range (R182, R184). -/
theorem Settings.store_wf {t : Settings} (h : t.wf = true) (i : SettingId) (v : Int) :
    (t.store i (i.bring t v)).wf = true := by
  rw [Settings.wf_iff] at h ⊢
  by_cases hi : i = .window
  · subst hi
    exact { h with window := SettingId.bring_window t v }
  · have b := SettingId.bring_eq t v hi ▸ clampInt_mem (v := v) (SettingId.range_le h i)
    generalize i.bring t v = w at b
    cases i with
    | window => exact absurd rfl hi
    | fallLevel =>
      have h1 := h.fallExit
      simp only [SettingId.range] at b
      exact { h with fallLevel := b, fallExit := ⟨by simp [Settings.store, Settings.set], by simp [Settings.store]; omega⟩ }
    | restLow =>
      have h1 := h.restHigh
      simp only [SettingId.range] at b
      exact { h with restLow := b, restHigh := ⟨by simp [Settings.store, Settings.set], by simp [Settings.store]; omega⟩ }
    | fallExit => exact { h with fallExit := b }
    | fallConfirm => exact { h with fallConfirm := b }
    | impactLevel => exact { h with impactLevel := b }
    | restHigh => exact { h with restHigh := b }
    | settleCount => exact { h with settleCount := b }
    | holdLimit => exact { h with holdLimit := b }
    | accGainX => exact { h with accGainX := b }
    | accGainY => exact { h with accGainY := b }
    | accGainZ => exact { h with accGainZ := b }
    | accOffsetX => exact { h with accOffsetX := b }
    | accOffsetY => exact { h with accOffsetY := b }
    | accOffsetZ => exact { h with accOffsetZ := b }
    | capacity => exact { h with capacity := b }
    | reserve => exact { h with reserve := b }
    | critMv => exact { h with critMv := b }
    | curGain => exact { h with curGain := b }
    | curOffset => exact { h with curOffset := b }
    | attnEnable => exact { h with attnEnable := b }
    | dozeDelay => exact { h with dozeDelay := b }
    | counterClearOnRead => exact { h with counterClearOnRead := b }

theorem Settings.defaults_wf : Settings.defaults.wf = true := by decide

/-- WINDOW is at least 8 while the table is in range. -/
theorem Settings.InRange.window_pos {t : Settings} (h : t.InRange) : 8 ≤ t.window := by
  rcases h.window with h | h | h <;> omega

end Sys2Proof.Machine
end

