-- ==== Sys2Proof/Tests/Slice0.lean ====
section
/-! SUPPORT. The model's own tests: the manual's check values, worked cases and examples, one step each, and one witness for the
hypotheses of each statement in Certificates/Slice0/Obligations.lean. -/

namespace Sys2Proof.Machine

/-- `s` with CE# of the sequence's module asserted and the sequence open. -/
def State.opened (s : State) (q : Seq) : State :=
  { s with ce := (PerModule.const false).set q.module true, relay := { s.relay with seq := some q } }

/-- A slot's record and its volatile part. -/
def State.slot (s : State) (k : ModuleId) (kind : OpKind) (st : SlotState) (step : SlotStep) (startMs : Nat) : State :=
  (s.setSlotRec k
    { SlotRec.blank with
      state := st, kind := some kind, block := some 610, page := if kind = .program then some 20 else none,
      tagged := decide (kind = .program), writeSeq := if kind = .program then some 9001 else none,
      level := some .normal, holdStart := if st = .held then some startMs else none }).setSlotLive k
    { SlotLive.empty with
      state := st, step := some step, issueMs := if st = .held then none else some startMs,
      timerFrom := if st = .held ∨ st = .suspended then none else some startMs }

/-- `s` with a monitor state and an open record's number. -/
def State.watch (s : State) (m : MonState) (rec : Option Nat) : State :=
  { s with mon := { Monitor.initial with state := m, openRec := rec } }

/-- `s` with an insert running. -/
def State.runs (s : State) (e : Insert) : State := { s with arb := { s.arb with running := some e } }

/-- `s` with one insert queued. -/
def State.queues (s : State) (e : Insert) : State := { s with arb := { s.arb with queue := [e] } }

/-- `s` at a time of the time base in ms. -/
def State.atMs (s : State) (ms : Nat) : State := { s with now := 1000 * ms }

/-- `s` with a sensor transfer running that ends now. -/
def State.sampling (s : State) : State := { s with fe := { s.fe with transfer := some s.now } }

/-- `s` with a frame that waits for its command. -/
def State.carrying (s : State) (bytes : List Byte) : State :=
  { s with svc := { s.svc with processing := some (.frame bytes none) } }

end Sys2Proof.Machine

namespace Sys2Proof.Tests

-- One theorem at a time: each waits for the kernel's answer on those before it.
set_option Elab.async false

open Sys2Proof Sys2Proof.Machine

/-! ### Building small states -/

/-- The state after a command. -/
def after (c : Instr) (s : State) : State :=
  match exec c s with
  | .next t => t
  | .fault _ => s
  | .refused _ => s

/-- The part after reset with CE#k asserted. -/
def selecting (k : ModuleId) : State := { State.reset with ce := (PerModule.const false).set k true }

/-- A sequence with its cycles latched and a handling. -/
def seqOf (kind : SeqKind) (k : ModuleId) (latched : List Byte) (h : Handling) : Seq :=
  { newSeq kind k with latched := latched, handling := h }

/-- The three row cycles of a page. -/
def rowCycles (block page : Nat) : List Byte :=
  [BitVec.ofNat 8 (block * 128 + page), BitVec.ofNat 8 ((block * 128 + page) / 256),
   BitVec.ofNat 8 ((block * 128 + page) / 65536)]

/-- The five cycles of a page address. -/
def pageCycles (col block page : Nat) : List Byte :=
  [BitVec.ofNat 8 col, BitVec.ofNat 8 (col / 256)] ++ rowCycles block page

/-- A program or read of block 713, page 40 of module 2, at a position, passed through. -/
def program (pos : Nat) (tagged : Bool) (tag : Option (List Byte)) : TagProgram where
  module := .m2
  block := 713
  page := 40
  pos := pos
  crc := crc32Start
  tagged := tagged
  tag := tag
  writeSeq := tag.map fun _ => 18204

/-- The part with that program open. -/
def programming (p : TagProgram) : State :=
  { State.reset.opened (seqOf .program .m2 (pageCycles 0 713 40) .passed) with tag := { program := some p, read := none } }

/-- A read of block 713, page 40 of module 2 at a position. -/
def read (pos : Nat) : TagRead where
  module := .m2
  block := 713
  page := 40
  pos := pos
  crc := crc32Start
  inOrder := true
  allFF := true
  captured := []
  settled := false

/-- The part with that read open past its busy period. -/
def reading (r : TagRead) : State :=
  { State.reset.opened { seqOf .read .m2 (pageCycles 0 713 40) .passed with closeTaken := true } with
    tag := { program := none, read := some r } }

/-- An erase of block 1400 of module 3, passed through. -/
def erasing : State := State.reset.opened (seqOf .erase .m3 (rowCycles 1400 0) .passed)

/-- An insert without a cause. -/
def insertOf (k : ModuleId) (kind : InsertKind) : Insert := { module := k, kind := kind, cause := none }

/-- A reply with the new-data bit set and three raw values. -/
def reply (x y z : Int) : SensorReply where
  status := 0x80
  xHigh := BitVec.ofInt 8 (x / 256)
  xLow := BitVec.ofInt 8 x
  yHigh := BitVec.ofInt 8 (y / 256)
  yLow := BitVec.ofInt 8 y
  zHigh := BitVec.ofInt 8 (z / 256)
  zLow := BitVec.ofInt 8 z

/-- A reply of a sensor whose MISO line floats high (3.2). -/
def dead : SensorReply := ⟨0xFF, 0xFF, 0xFF, 0xFF, 0xFF, 0xFF, 0xFF⟩

/-- A command frame with its check (R198). -/
def frame (code num : Byte) (args : List Byte) : List Byte :=
  let body := [0xA7, 0x3C, code, num] ++ args ++ List.replicate (12 - args.length) 0
  body ++ [BitVec.ofNat 8 ((crc16 body).toNat / 256), BitVec.ofNat 8 (crc16 body).toNat]

/-- A closed shock record. -/
def shock (n : Nat) : ShockRec where
  number := n
  kind := .knock
  stamp := 0
  duration := 0
  peak := none
  saturated := false
  strikes := 1
  charge := 500
  exposed := 0
  held := 0
  isOpen := false

/-- A suspect entry. -/
def suspect (k : ModuleId) (block : Nat) (page : Option (BitVec 7)) (r : Reason) : Suspect where
  key := ⟨k, BitVec.ofNat 11 block, page⟩
  reason := r
  verdict := .isOpen
  writeSeq := some 5000
  shock := none
  stamp := 8120400

/-- What a reset samples, with every module ready. -/
def inputs (mv : BitVec 16) : ResetInputs := { svcSel := 0, modCnt := 3, sample := mv, rbBusy := PerModule.const false }

/-- The part without supply, its retained memory holding `m`. -/
def unpowered (m : Retained) : State := { State.reset with phase := .unpowered, ret := m }

/-! ### Well-formedness: the one check, with a term each side of it (R2, R3) -/

theorem test_wf_refuses_read_open_as_unplaced : (Instr.unplacedCode 0x05).wf = false := by decide
theorem test_wf_refuses_every_open_code_as_unplaced :
    ([0x05, 0x0B, 0x0E, 0x0C, 0x0F, 0x06, 0x07, 0x09] : List Byte).all (fun c => !(Instr.unplacedCode c).wf) = true := by
  decide
theorem test_wf_takes_close_codes_and_foreign_bytes :
    ([0x15, 0x1B, 0x1E, 0x0A, 0x00, 0xFF] : List Byte).all (fun c => (Instr.unplacedCode c).wf) = true := by decide
/-- The twelve code bytes as the table of R196 writes them, and a byte outside it. -/
theorem test_code_words_spell_their_commands :
    [0x05, 0x15, 0x0B, 0x1B, 0x0E, 0x1E, 0x0C, 0x0F, 0x06, 0x07, 0x09, 0x0A, 0x00].map (decodeTableWord 8)
      = [some .readOpen, some .readClose, some .programOpen, some .programClose, some .eraseOpen, some .eraseClose, some .status,
         some .moduleReset, some .suspend, some .resume, some .identify, some (.columnMove 0), some (.unplacedCode 0x00)] := by decide
/-- COLUMN MOVE to column 4127, 0x101F: the code, the low byte and the high byte (R196). -/
theorem test_column_move_word : decodeTableWord 24 0x101F0A = some (.columnMove 4127) := by decide
theorem test_other_words_spell_nothing :
    decodeTableWord 16 0x0105 = none ∧ decodeTableWord 24 0x101F05 = none ∧ decodeTableWord 8 0x105 = none := by decide
theorem test_code_word_runs_first :
    step (({ selecting .m1 with pending := [.serviceProcessingEnd] } : State).withFetchWord 8 0x05)
      = exec .readOpen { selecting .m1 with pending := [.serviceProcessingEnd] } := rfl

/-! ### The check codes (R24, R25) -/

/-- "123456789" in ASCII. -/
def digits : List Byte := [0x31, 0x32, 0x33, 0x34, 0x35, 0x36, 0x37, 0x38, 0x39]

theorem test_crc32_check_value : crc32 digits = 0xCBF43926 := by decide +kernel
theorem test_crc16_check_value : crc16 digits = 0x29B1 := by decide +kernel
theorem test_crc32_state_after_digits : digits.foldl crc32Byte crc32Start = 0x340BC6D9 := by decide +kernel

/-! ### Opening and addressing (R2 to R4, R12, R17) -/

theorem test_read_open_opens : (after .readOpen (selecting .m1)).relay.seq = some (newSeq .read .m1) := by decide +kernel
theorem test_program_open_opens : (after .programOpen (selecting .m3)).relay.seq = some (newSeq .program .m3) := by
  decide +kernel
theorem test_erase_open_opens : (after .eraseOpen (selecting .m0)).relay.seq = some (newSeq .erase .m0) := by decide +kernel
theorem test_identify_opens : (after .identify (selecting .m2)).relay.seq = some (newSeq .identify .m2) := by decide +kernel
theorem test_open_without_ce_is_ignored : after .readOpen State.reset = State.reset := by decide +kernel
theorem test_open_under_wait_is_counted :
    (after .readOpen ((selecting .m1).runs (insertOf .m2 .suspend))).counters.protocol = 1 := by decide +kernel

/-- The row cycles of block 713, page 40 are the bits of 713 × 128 + 40 = 91304, low byte first (R196). -/
theorem test_row_splits_into_block_and_page :
    latchedAddr .read [0x00, 0x00, 0xA8, 0x64, 0x01] = { column := 0, block := 713, page := 40 } := by decide
/-- Bits 23 to 18 of the row number are ignored (R196). -/
theorem test_high_row_bits_are_ignored : rowBlock (rowOf 0xA8 0x64 0xFD) = 713 := by decide
theorem test_last_address_cycle_forwards_the_latched_ones :
    (after (.addressCycle 0x01) (State.reset.opened (seqOf .program .m2 [0x00, 0x00, 0xA8, 0x64] .latching))).ports.moduleCycles
      = [.code .m2 0x0B, .addr .m2 0x00, .addr .m2 0x00, .addr .m2 0xA8, .addr .m2 0x64, .addr .m2 0x01] := by decide +kernel
theorem test_service_page_is_not_forwarded :
    (after (.addressCycle 0x03) (State.reset.opened (seqOf .program .m0 [0x00, 0x00, 0x80, 0xFF] .latching))).svc.frame
      = some { bytes := List.replicate 18 0xFF, pos := 0 } := by decide +kernel

/-! ### STATUS and the three codes of the drive controller (R4, R8, R12, R15) -/

theorem test_status_of_a_live_slot_is_not_ready :
    (State.reset.slot .m0 .program .issued .busy 0).statusAnswer .m0 = .byPart 0x00 := by decide +kernel
theorem test_status_passes_to_a_free_module :
    (after .status (selecting .m1)).ports.moduleCycles = [.code .m1 0x0C] := by decide +kernel
theorem test_status_of_an_absent_module :
    ({ selecting .m1 with straps := { svcSel := 0, modCnt := 0 } } : State).statusAnswer .m1 = .byPart 0x81 := by decide +kernel
theorem test_module_reset_aborts_an_issued_program :
    (after .moduleReset ((selecting .m1).slot .m1 .program .issued .busy 0)).ret.suspects.map Suspect.reason = [.aborted] := by
  decide +kernel
theorem test_module_reset_withdraws_a_held_erase :
    ((after .moduleReset ((selecting .m3).slot .m3 .erase .held .waiting 0)).slotRec .m3).last = some .withdrawn := by
  decide +kernel
theorem test_suspend_is_discarded : (after .suspend (selecting .m1)).counters.protocol = 1 := by decide +kernel
theorem test_resume_reaches_no_module : (after .resume (selecting .m1)).ports.moduleCycles = [] := by decide +kernel

/-! ### The tag (2.5, R26 to R33, R197) -/

/-- The part of 2.5: write sequence 18,204, epoch 41, charge 612 permille, stamp 7,300,155, CALM at NORMAL. -/
def survey (s : State) : State :=
  { s with
    ret := { s.ret with writeSeq := 18204, epoch := 41 }
    gauge := { s.gauge with q := 13219200000 }
    clock := { s.clock with stamp := 7300155 } }

/-- The fields of the first tag of 2.5: write sequence 18,204, epoch 41, charge 612, state byte 0, stamp 7,300,155 and the echo of
module 2, block 713, page 40, then the pad (R197). -/
theorem test_tag_of_the_survey_program :
    ((tagBytes (survey State.reset) (program 3000 true none) 0x01020304 18204).take 30)
      = [0xA7, 0x3C, 0x01, 0x02, 0x03, 0x04, 0x00, 0x00, 0x47, 0x1C, 0x00, 0x29, 0x02, 0x64, 0x00, 0x00, 0x6F, 0x64, 0x3B,
         0x00, 0x09, 0x64, 0xA8, 0xFF, 0xFF, 0xFF, 0xFF, 0xFF, 0xFF, 0xFF] := by decide +kernel
/-- Level NORMAL with monitor FALLING gives state byte 0x04 (11.5). -/
theorem test_state_byte_of_a_fall : stateByte .normal .falling = 0x04 := by decide
/-- The close code of a program of 3000 bytes: COLUMN MOVE to 4096, 32 tag bytes, the close code, and the counter at 18,205 (2.5). -/
theorem test_program_close_completes_the_tag :
    let t := after .programClose (survey (programming (program 3000 true none)))
    t.ret.writeSeq = 18205 ∧ t.ports.moduleCycles.length = 36
      ∧ t.ports.moduleCycles.take 3 = [.code .m2 0x0A, .addr .m2 0x00, .addr .m2 0x10]
      ∧ t.ports.moduleCycles.getLast? = some (.code .m2 0x1B) ∧ (t.slotRec .m2).writeSeq = some 18204 := by decide +kernel
/-- An untagged program passes whole and takes no number (2.5). -/
theorem test_untagged_program_takes_no_number :
    (after .programClose (survey (programming (program 4128 false none)))).ret.writeSeq = 18204 := by decide +kernel
theorem test_column_move_untags :
    (after (.columnMove 4127) (programming (program 10 true none))).tag.program.map TagProgram.tagged = some false := by
  decide +kernel
theorem test_column_move_beyond_the_page_is_counted :
    (after (.columnMove 4128) (programming (program 10 true none))).counters.protocol = 1 := by decide +kernel
theorem test_data_byte_is_forwarded :
    (after (.dataInCycle 0x5A) (programming (program 7 true none))).ports.moduleCycles = [.data .m2 0x5A] := by decide +kernel
theorem test_tag_byte_replaces_the_drives :
    (after (.dataInCycle 0x5A) (programming (program 4097 true (some [0xA7, 0x3C])))).ports.moduleCycles = [.data .m2 0x3C] := by
  decide +kernel

/-! ### The read check (2.8, R36 to R40) -/

/-- A page copied with its tag to block 714, page 0 reads MISPLACED, with write sequence 18,204 of the copied tag (2.8). -/
theorem test_copied_page_is_misplaced :
    let r : TagRead :=
      { read 4128 with
        block := 714, page := 0, allFF := false,
        captured := tagBytes (survey State.reset) (program 3000 true none) 0x01020304 18204 }
    r.outcome = .misplaced ∧ r.reportSeq r.outcome = some 18204 := by decide +kernel
/-- Another data CRC at the right place reads MISMATCH. -/
theorem test_changed_data_is_a_mismatch :
    ({ read 4128 with
        allFF := false, captured := tagBytes (survey State.reset) (program 3000 true none) 0x01020304 18204 } : TagRead).outcome
      = .mismatch := by decide +kernel
theorem test_strobe_passes_the_modules_byte :
    (after (.dataOutStrobe 0x5A) (reading (read 3))).ports.driveData = some 0x5A := by decide +kernel
theorem test_last_column_of_an_erased_page_counts_empty :
    (after (.dataOutStrobe 0xFF) (reading { read 4127 with captured := List.replicate 31 0xFF })).counters.empty = 1 := by
  decide +kernel
/-- A short read whose CE# is deasserted is SKIPPED (2.8). -/
theorem test_short_read_is_skipped : (after (.ceDeassert .m2) (reading (read 4096))).counters.skipped = 1 := by decide +kernel
theorem test_read_close_starts_the_busy_period :
    (after .readClose (State.reset.opened (seqOf .read .m2 (pageCycles 0 713 40) .passed))).relay.readBusy.m2 = some 1000 := by
  decide +kernel
/-- A STATUS nested in a read that its close code ends clears the stray mark, as its byte out does; a read without one keeps it
(R3, 1.1). -/
theorem test_close_code_ends_a_nested_status :
    let q := seqOf .read .m2 (pageCycles 0 713 40) .passed
    let s : Option StatusAnswer → State := fun a =>
      { State.reset with relay := { Relay.initial with seq := some q, nested := a, stray := true } }
    ((after .readClose (s (some .fromModule))).relay.stray, (after .readClose (s none)).relay.stray) = (false, true) := by
  decide +kernel
theorem test_unplaced_code_is_counted : (after (.unplacedCode 0x00) State.reset).counters.protocol = 1 := by decide +kernel

/-! ### The suspect list (8.5, R142 to R152) -/

/-- EXPOSED falls to a MATCH, a TORN page that reads EMPTY is DAMAGED, a LOST one that reads EMPTY stays OPEN (8.5). -/
theorem test_match_removes_an_exposed_entry :
    let s : State := { State.reset with ret := { Retained.setUp with suspects := [suspect .m1 55 (some 3) .exposed] } }
    (s.readReport .matched ⟨.m1, 55, some 3⟩ (some 5200)).ret.suspects = [] := by decide +kernel
theorem test_empty_damages_a_torn_entry :
    let s : State := { State.reset with ret := { Retained.setUp with suspects := [suspect .m1 55 (some 4) .torn] } }
    (s.readReport .empty ⟨.m1, 55, some 4⟩ none).ret.suspects.map Suspect.verdict = [.damaged] := by decide +kernel
theorem test_empty_leaves_a_lost_entry :
    let s : State := { State.reset with ret := { Retained.setUp with suspects := [suspect .m0 300 (some 7) .lost] } }
    s.readReport .empty ⟨.m0, 300, some 7⟩ none = s := by decide +kernel
/-- A MISMATCH raises an ABORTED entry to MISMATCH, with the read's write sequence and stamp, and INTEGRITY (8.5). -/
theorem test_mismatch_raises_an_aborted_entry :
    let s : State :=
      { State.reset with
        ret := { Retained.setUp with suspects := [suspect .m3 900 (some 0) .aborted] }
        clock := { State.reset.clock with stamp := 9004120 } }
    let t := s.readReport .mismatch ⟨.m3, 900, some 0⟩ (some 5150)
    t.ret.suspects.map (fun e => (e.reason, e.verdict, e.writeSeq, e.stamp)) = [(.mismatch, .damaged, some 5150, 9004120)]
      ∧ t.causes = 4 := by decide +kernel

/-! ### Busy periods and slots (1.8, R13 to R16, R97 to R99) -/

/-- A module's ready return queues its STATUS_CHECK behind the one that came first (1.8). -/
theorem test_ready_return_queues_a_status_check :
    (after (.moduleReadyReturn .m2)
      ((State.reset.slot .m2 .erase .issued .busy 0).queues (insertOf .m1 .statusCheck))).arb.queue
      = [insertOf .m1 .statusCheck, insertOf .m2 .statusCheck] := by decide +kernel
theorem test_read_busy_timeout_makes_stuck :
    (after (.readBusyTimeout .m2)
      { State.reset with relay := { Relay.initial with readBusy := (PerModule.const none).set .m2 (some 1000) } }).relay.stuck.m2
      = true := by decide +kernel
theorem test_reset_busy_timeout_raises_module :
    (after (.resetBusyTimeout .m2)
      { State.reset with relay := { Relay.initial with resetBusy := (PerModule.const none).set .m2 (some 5000) } }).causes
      = 64 := by decide +kernel
theorem test_residual_busy_timeout_is_counted :
    (after (.residualBusyTimeout .m2)
      { State.reset with
        relay := { Relay.initial with residual := (PerModule.const none).set .m2 (some 50000) } }).counters.timeout = 1 := by
  decide +kernel
/-- The busy time of a program passes 10 ms at 11 ms (R82, R99). -/
theorem test_busy_timer_expiry_closes_timed_out :
    let t := after (.busyTimerExpiry .m1) (State.reset.slot .m1 .program .issued .busy 0)
    t.now = 11000 ∧ (t.slotRec .m1).last = some .timedOut ∧ t.ret.suspects.map Suspect.reason = [.timedOut] := by decide +kernel
/-- A hold begun at ms 30,050 with HOLD_LIMIT 1200 is released at ms 31,251 (5.8). -/
theorem test_hold_passes_its_limit :
    let t := after (.holdLimitExpiry .m0)
      ({ State.reset with releaseQueue := [.m0] }.slot .m0 .program .held .waiting 30050 |>.atMs 30400)
    t.now = 31251000 ∧ t.arb.queue = [{ module := .m0, kind := .release, cause := some .holdLimit }]
      ∧ t.counters.holdBreaks = 1 := by decide +kernel

/-! ### Confirms and inserts (5.2 to 5.8, R83 to R98) -/

theorem test_erase_close_in_calm_is_issued :
    (after .eraseClose erasing).ports.moduleCycles = [.code .m3 0x1E] := by decide +kernel
theorem test_erase_close_in_a_fall_is_held :
    let t := after .eraseClose (erasing.watch .falling (some 71))
    (t.slotRec .m3).state = .held ∧ t.releaseQueue = [.m3] ∧ t.ports.moduleCycles = [] := by decide +kernel
/-- A RELEASE started away from CALM marks its slot exposed with offset 0 and goes out as the operation's close code (5.8). -/
theorem test_release_away_from_calm_is_exposed :
    let t := after .insertStart
      (((State.reset.slot .m0 .program .held .releaseQueued 0).watch .struck (some 71)).queues
        { module := .m0, kind := .release, cause := some .holdLimit })
    (t.slotRec .m0).exposure = some { record := 71, offset := 0 } ∧ t.ports.moduleCycles = [.code .m0 0x1B] := by decide +kernel
theorem test_insert_waits_for_the_gap :
    (after .insertStart { State.reset with
          arb := { Arbiter.initial with queue := [insertOf .m1 .statusCheck], gapFrom := some 0 } }).now = 2 := by decide +kernel
theorem test_status_check_closes_done :
    ((after (.statusCheckComplete 0x80)
      ((State.reset.slot .m1 .program .issued .checking 0).runs (insertOf .m1 .statusCheck))).slotRec .m1).last
      = some .done := by decide +kernel
/-- A suspension settled with SUSPENDED set and the monitor away stays PARKED (R95). -/
theorem test_status_check_parks_a_suspended_erase :
    let s := (State.reset.slot .m3 .erase .issued .checking 0).watch .falling (some 60)
    let t := after (.statusCheckComplete 0x40)
      ({ s with slots := s.slots.set .m3 { s.slotLive .m3 with suspendFlag := true } }.runs (insertOf .m3 .statusCheck))
    (t.slotRec .m3).state = .suspended ∧ (t.slotLive .m3).step = some .parked := by decide +kernel
theorem test_suspend_complete_with_ready_line_checks :
    (after (.suspendComplete true)
      ((State.reset.slot .m3 .erase .issued .suspending 0).runs (insertOf .m3 .suspend))).arb.queue
      = [insertOf .m3 .statusCheck] := by decide +kernel
theorem test_resume_complete_counts_on :
    let t := after .resumeComplete ((State.reset.slot .m3 .erase .suspended .resuming 0).runs (insertOf .m3 .resume))
    (t.slotLive .m3).state = .issued ∧ (t.slotLive .m3).timerFrom = some 0 := by decide +kernel
theorem test_release_complete_issues :
    ((after .releaseComplete
      ((State.reset.slot .m0 .program .held .releasing 0).runs (insertOf .m0 .release))).slotLive .m0).step = some .busy := by
  decide +kernel

/-! ### Motion (3.7, 3.8, 4.7, 4.8) -/

/-- The calibration of 3.7. -/
def calibration : Settings :=
  { Settings.defaults with accGainX := 1100, accOffsetX := -3, accGainZ := 990, accOffsetZ := 5 }

theorem test_worked_calibration :
    correctedSample calibration (reply (-130) 20 1500) = { cx := -143, cy := 20, cz := 1455, l1 := 1618 } := by decide +kernel
theorem test_saturated_calibration :
    correctedSample calibration (reply 2047 0 0) = { cx := 2047, cy := 0, cz := 5, l1 := 2052 }
      ∧ replySaturated calibration (reply 2047 0 0) = true := by decide +kernel
/-- Arrival 6 of 3.8: 1618 joins, 128 leaves, the sum is 2128 and the average 266. -/
theorem test_worked_window :
    let f := ({ FrontEnd.initial 8 with window := [128, 128, 128, 150, 60, 20, 12, 12], sum := 638, staleCount := 1 }).takeFresh
      calibration (reply (-130) 20 1500)
    f.1.sum = 2128 ∧ f.2.average = 266 ∧ f.1.window = [128, 128, 150, 60, 20, 12, 12, 1618] ∧ f.1.staleCount = 0 := by
  decide +kernel
/-- Arrival 5 of 3.8: a stale sample repeats 12. -/
theorem test_stale_sample_repeats :
    let f := ({ FrontEnd.initial 8 with
      window := [128, 128, 128, 128, 150, 60, 20, 12], sum := 754, last := ⟨4, 4, 4, 12⟩ }).takeStale
    f.1.sum = 638 ∧ f.2.average = 79 ∧ f.1.staleCount = 1 := by decide +kernel
theorem test_poll_starts_a_transfer :
    (after .pollDue State.reset).ports.sensorOut = [0xC0, 0, 0, 0, 0, 0, 0, 0] ∧ (after .pollDue State.reset).fe.nextPoll = 1250 := by
  decide +kernel
theorem test_floating_sensor_is_stale :
    (after (.sampleArrival dead) State.reset.sampling).counters.stale = 1 := by decide +kernel
/-- Arrival 35 of 4.7: the 24th low report opens record 42 as a FALL of duration 24, exposes slots 1 and 2 and requests a SUSPEND
for the erase. -/
theorem test_fall_is_confirmed :
    let s := (State.reset.slot .m1 .program .issued .busy 18).slot .m2 .erase .issued .busy 1 |>.atMs 43 |>.sampling
    let t := after (.sampleArrival (reply 2 2 2))
      { s with
        ret := { s.ret with epoch := 41 }
        fe := { s.fe with window := List.replicate 16 6, sum := 96 }
        mon := { s.mon with lowRun := 23 } }
    t.mon.state = .falling ∧ t.ret.shocks.map (fun r => (r.number, r.kind, r.duration, r.exposed)) = [(42, .fall, 24, 2)]
      ∧ t.arb.queue = [insertOf .m2 .suspend] ∧ (t.slotRec .m1).exposure = some { record := 42, offset := 25 }
      ∧ (t.slotRec .m2).exposure = some { record := 42, offset := 42 } := by decide +kernel
/-- Arrival 724 of 4.7: the strike adds its sample to the duration and makes the FALL a DROP with peak 2900 on z. -/
theorem test_strike_makes_a_drop :
    let s := (State.reset.watch .falling (some 42)).sampling
    let t := after (.sampleArrival (reply (-820) 40 2040))
      { s with ret := { s.ret with shocks := [{ shock 42 with kind := .fall, duration := 712, strikes := 0, isOpen := true }] } }
    t.mon.state = .struck
      ∧ t.ret.shocks.map (fun r => (r.kind, r.duration, r.strikes, r.peak)) = [(.drop, 713, 1, some ⟨2900, .z⟩)] := by
  decide +kernel
/-- Arrival 901 of 4.7: the 160th rest report closes record 42 and requests the RELEASE of slot 0, then the RESUME of slot 2. -/
theorem test_settled_drive_releases :
    let s := (((({ State.reset with releaseQueue := [.m0] }.slot .m0 .program .held .waiting 0).slot .m2 .erase .suspended .parked
      0).watch .settling (some 42))).sampling
    let t := after (.sampleArrival (reply 0 2 128))
      { s with
        ret := { s.ret with shocks := [{ shock 42 with isOpen := true }] }
        mon := { s.mon with settle := 159 } }
    t.mon.state = .calm ∧ t.ret.shocks.map ShockRec.isOpen = [false]
      ∧ t.arb.queue = [{ module := .m0, kind := .release, cause := some .settled }, insertOf .m2 .resume] := by decide +kernel
/-- 4.8: a knock while slot 0's RELEASE runs and slot 3's waits: two held slots, slot 0 exposed with offset 0, slot 3's request
withdrawn. -/
theorem test_knock_withdraws_a_release :
    let s := ((({ State.reset with releaseQueue := [.m0, .m3] }.slot .m0 .program .held .releasing 0).slot .m3 .program .held
      .releaseQueued 0).queues { module := .m3, kind := .release, cause := some .settled }).runs
      { module := .m0, kind := .release, cause := some .settled } |>.sampling
    let t := after (.sampleArrival (reply 400 400 400)) { s with ret := { s.ret with epoch := 43 } }
    t.ret.shocks.map (fun r => (r.number, r.kind, r.strikes, r.held, r.exposed)) = [(44, .knock, 1, 2, 1)] ∧ t.arb.queue = []
      ∧ (t.slotRec .m0).exposure = some { record := 44, offset := 0 } ∧ t.releaseQueue = [.m0, .m3]
      ∧ (t.slotLive .m3).step = some .waiting := by decide +kernel

/-! ### The battery (6.5, 6.9, 6.10, 11.7) -/

/-- 6.5: raw 1234 under gain 16500 and offset −4 is 1239; Q falls to 10,799,998,761, 499 permille and 2999 mAh. -/
theorem test_worked_current_sample :
    let s : State :=
      { State.reset with
        ret := { Retained.setUp with settings := { Settings.defaults with curGain := 16500, curOffset := -4 } }
        gauge := { State.reset.gauge with currentRunning := true } }
    let t := after (.currentSampleArrival 1234) s
    let u := after (.currentSampleArrival (-1234)) { t with gauge := { t.gauge with currentRunning := true } }
    t.gauge.q = 10799998761 ∧ t.permille = 499 ∧ t.remainingMah = 2999 ∧ t.currentMa = 123
      ∧ u.gauge.q = 10800000008 ∧ u.currentMa = -124 := by decide +kernel
/-- 6.9: the sample that takes Q below 300 mAh makes the level RESERVE and raises BATTERY. -/
theorem test_reserve_is_entered :
    let t := after (.currentSampleArrival 1239)
      { State.reset with gauge := { State.reset.gauge with q := 1080000800, currentRunning := true } }
    t.gauge.level = .reserve ∧ t.causes = 8 ∧ t.remainingMah = 299 := by decide +kernel
/-- 6.10: the eighth loaded sample brings the average to 3090 and the level to CRITICAL. -/
theorem test_sag_is_critical :
    let w := List.replicate 9 3180 ++ List.replicate 7 3000
    let t := after (.voltageSampleArrival 3000)
      { State.reset with gauge := { State.reset.gauge with vWindow := w, vSum := 49620, voltageRunning := true } }
    t.gauge.vSum = 49440 ∧ t.gauge.vAverage = 3090 ∧ t.gauge.level = .critical ∧ t.causes = 8 := by decide +kernel
/-- 11.7: the average 3198 leaves a LOW voltage condition, 3209 clears it. -/
theorem test_recovery_needs_the_margin :
    voltageCondition Settings.defaults true 3198 = true ∧ voltageCondition Settings.defaults true 3209 = false := by decide
theorem test_sample_schedules :
    (after .currentSampleDue State.reset).gauge.nextCurrent = 20000
      ∧ (after .voltageSampleDue State.reset).gauge.nextVoltage = 200000 := by decide +kernel
theorem test_q_copy_takes_the_live_charge :
    (after .qCopyDue { State.reset with gauge := { State.reset.gauge with q := 7 } }).ret.chargeCopy.q = 7 := by decide +kernel

/-! ### Stamp and doze (10.3, 10.4, 10.6) -/

theorem test_stamp_wraps :
    (after .stampSecond { State.reset with clock := { State.reset.clock with stamp := 4294967295 } }).clock.stamp = 0 := by
  decide +kernel
theorem test_stamp_copy :
    (after .stampCopyDue { State.reset with clock := { State.reset.clock with stamp := 9 } }).ret.stampCopy = 9 := by decide +kernel
/-- 10.6: the idle time reaches 2000 ms at ms 502,010. -/
theorem test_doze_entry :
    let t := after .dozeEntry ({ State.reset with doze := { dozing := false, idleFromMs := 500010 } }.atMs 502010)
    t.doze.dozing = true ∧ t.fe.pollPeriod = 10000 ∧ t.fe.nextPoll = 502020000 := by decide +kernel
/-- A CE# assertion in DOZE wakes the part with WAIT held; in ACTIVE it asserts no WAIT (10.6). -/
theorem test_ce_assert_wakes :
    (after (.ceAssert .m1) { State.reset with doze := { dozing := true, idleFromMs := 0 } }).wait = true
      ∧ (after (.ceAssert .m1) State.reset).wait = false := by decide +kernel

/-! ### Power and reset (7.3 to 7.6, 11.6, R187, R194) -/

theorem test_first_power_on_is_reset :
    after (.powerOn (inputs 3710)) (unpowered { Retained.setUp with marker := false, writeSeq := 77 }) = State.reset := by
  decide +kernel
/-- 11.6: slot 2 found ISSUED closes TORN, record 202 is a closed DROPOUT of one exposed slot, the module is reset and shows
busy. -/
theorem test_contact_bounce :
    let m := ((State.reset.slot .m2 .program .issued .busy 0)).ret
    let t := after (.powerOn (inputs 3710)) (unpowered { m with epoch := 201 })
    t.ret.shocks.map (fun r => (r.number, r.kind, r.exposed, r.held, r.isOpen)) = [(202, .dropout, 1, 0, false)]
      ∧ t.ret.suspects.map Suspect.reason = [.torn] ∧ t.causes = 2 ∧ t.ports.moduleCycles = [.code .m2 0x0F]
      ∧ t.rbShowsBusy .m2 = true ∧ t.rbShowsBusy .m3 = false := by decide +kernel
/-- 11.7: a reset sample of 3050 mV is CRITICAL at once and raises nothing. -/
theorem test_cold_morning :
    let t := after (.powerOn (inputs 3050)) (unpowered Retained.setUp)
    t.gauge.level = .critical ∧ t.gauge.vSum = 48800 ∧ t.causes = 0 := by decide +kernel
theorem test_power_loss_keeps_retained_memory :
    (after .powerLoss { State.reset with causes := 255 }).causes = 0 ∧ (after .powerLoss State.reset).ret = State.reset.ret := by
  decide +kernel
theorem test_warm_reset_keeps_the_live_charge :
    let s := after .resetAssert { State.reset with gauge := { State.reset.gauge with q := 9309600000 } }
    s.wait = true ∧ (after (.resetRelease (inputs 3710)) s).gauge.q = 9309600000 := by decide +kernel

/-! ### The service block (9.7, 9.8, 8.8, R163 to R174) -/

/-- 9.7: HOLD_LIMIT 8000 is stored as 5000 and answered CLAMPED. -/
theorem test_setting_is_clamped :
    let t := after .setSetting (State.reset.carrying (frame 0x01 0x21 [9, 0x00, 0x00, 0x1F, 0x40]))
    t.ret.settings.holdLimit = 5000
      ∧ t.svc.processing = some (.frame (frame 0x01 0x21 [9, 0x00, 0x00, 0x1F, 0x40])
          (some { result := .clamped, applied := 5000 })) := by decide +kernel
/-- 9.7: a frame whose check is wrong is MALFORMED. -/
theorem test_bad_check_is_malformed :
    checkFrame ((frame 0x01 0x21 [9, 0x00, 0x00, 0x1F, 0x40]).set 17 0x00) = .error .malformed := by decide +kernel
theorem test_answer_counts :
    let t := after .serviceProcessingEnd
      { State.reset with
        svc :=
          { Service.initial with
            processing := some (.frame (frame 0x01 0x21 []) (some { result := .clamped, applied := 5000 }))
            answerCount := 311 } }
    t.svc.answerCount = 312 ∧ t.svc.answer = some ⟨0x21, 0x01, .clamped, some 5000⟩ ∧ t.relay.serviceAnswer = true := by
  decide +kernel
theorem test_modify_attention :
    (after .modifyAttention (State.reset.carrying (frame 0x02 1 [0x08, 0x00]))).ret.settings.attnEnable = 0xF7 := by decide +kernel
theorem test_set_stamp :
    (after .setStamp (State.reset.carrying (frame 0x03 1 [0x00, 0x6F, 0x64, 0x3B]))).clock.stamp = 7300155 := by decide +kernel
theorem test_set_charge :
    (after .setCharge (State.reset.carrying (frame 0x04 1 [0x00, 0x00, 0x05, 0xDC]))).gauge.q = 5400000000 := by decide +kernel
theorem test_mark_full : (after .markFull (State.reset.carrying (frame 0x05 1 []))).permille = 1000 := by decide +kernel
theorem test_release_suspect_one :
    let s : State :=
      { State.reset with
        ret := { Retained.setUp with suspects := [suspect .m0 300 (some 7) .lost, suspect .m2 1400 none .torn] } }
    (after .releaseSuspect (s.carrying (frame 0x06 1 [1, 0, 0x01, 0x2C, 7]))).ret.suspects = [suspect .m2 1400 none .torn] := by
  decide +kernel
/-- 8.8: CLEAR SHOCK LOG through 142 keeps the open record and clears the overwritten count. -/
theorem test_clear_shock_log :
    let s : State :=
      { State.reset with
        ret := { Retained.setUp with
          shocks := [shock 111, shock 141, { shock 142 with isOpen := true }], epoch := 142, overwritten := 6 } }
    let t := after .clearShockLog (s.carrying (frame 0x07 1 [0, 0, 0, 142]))
    t.ret.shocks.map ShockRec.number = [142] ∧ t.ret.overwritten = 0 := by decide +kernel
theorem test_release_holds :
    (after .releaseHolds (({ State.reset with releaseQueue := [.m0] }.slot .m0 .program .held .waiting 0).carrying
      (frame 0x08 1 []))).arb.queue = [{ module := .m0, kind := .release, cause := some .forced }] := by decide +kernel
theorem test_clear_counters :
    (after .clearCounters ({ State.reset with counters := { Counters.zero with stale := 5 } }.carrying
      (frame 0x09 1 []))).counters = Counters.zero := by decide +kernel
theorem test_restore_defaults :
    (after .restoreDefaults ({ State.reset with
      ret := { Retained.setUp with settings := { Settings.defaults with window := 8 } } }.carrying
      (frame 0x0A 1 []))).fe.window = List.replicate 16 128 := by decide +kernel

/-- A read of report page `p` from column 0, its close code not yet taken. -/
def askPage (s : State) (p : BitVec 7) : State := s.opened (seqOf .read .m0 (pageCycles 0 2047 p.toNat) (.svcReport p 0))

/-- The bytes of a snapshot from a column. -/
def shown (s : State) (from_ n : Nat) : List Byte :=
  match s.svc.snapshot with
  | some x => (x.content.drop from_).take n
  | none => []

theorem test_page_1_shows_the_answer :
    shown (after .reportPage1 (askPage
      { State.reset with svc := { Service.initial with answer := some ⟨0x21, 0x01, .clamped, some 5000⟩, answerCount := 312 } }
      1)) 0 13 = [0xA7, 0x3C, 1, 0x21, 0x01, 1, 1, 0x00, 0x00, 0x13, 0x88, 0x01, 0x38] := by decide +kernel
/-- 9.8: the snapshot clears BATTERY although it is disabled, and ATTN# is released. -/
theorem test_page_2_clears_the_causes :
    let s : State :=
      { State.reset with
        ret := { Retained.setUp with settings := { Settings.defaults with attnEnable := 0xF7 } }, causes := 9 }
    s.attnLow = true ∧ shown (after .reportPage2 (askPage s 2)) 3 2 = [0x09, 0xF7]
      ∧ (after .reportPage2 (askPage s 2)).causes = 0 ∧ (after .reportPage2 (askPage s 2)).attnLow = false := by decide +kernel
theorem test_page_3_shows_a_record :
    shown (after .reportPage3 (askPage { State.reset with ret := { Retained.setUp with shocks := [shock 43] } } 3)) 3 6
      = [1, 0x00, 0x00, 0x00, 43, 3] := by decide +kernel
/-- 11.8: the first place of page 4. -/
theorem test_page_4_shows_an_entry :
    shown (after .reportPage4 (askPage
      { State.reset with
        ret := { Retained.setUp with
          suspects := [{ suspect .m2 77 (some 9) .mismatch with verdict := .damaged, writeSeq := some 9050 }] } } 4)) 8 14
      = [2, 0x00, 77, 9, 7, 1, 0x00, 0x00, 0x23, 0x5A, 0x00, 0x00, 0x00, 0x00] := by decide +kernel
theorem test_page_5_shows_the_queues :
    shown (after .reportPage5 (askPage ({ State.reset with releaseQueue := [.m3] }.queues
      { module := .m1, kind := .release, cause := some .holdLimit }) 5)) 164 8 = [3, 0xFF, 0xFF, 0xFF, 1, 0x24, 0xFF, 0xFF] := by
  decide +kernel
theorem test_page_6_shows_the_settings :
    shown (after .reportPage6 (askPage State.reset 6)) 4 8 = [0, 0, 0, 16, 0, 0, 0, 38] := by decide +kernel
theorem test_page_7_shows_and_clears_the_counters :
    let s : State :=
      { State.reset with
        ret := { Retained.setUp with settings := { Settings.defaults with counterClearOnRead := 1 } }
        counters := { Counters.zero with stale := 258 } }
    shown (after .reportPage7 (askPage s 7)) 28 2 = [1, 2] ∧ (after .reportPage7 (askPage s 7)).counters = Counters.zero := by
  decide +kernel

/-! ### The tick (log 3) -/

theorem test_first_poll_is_posted_at_625_us :
    ({ State.reset with now := 624 } : State).tick.pending = [.pollDue] ∧ ({ State.reset with now := 623 } : State).tick.pending = []
    := by decide +kernel
theorem test_step_takes_the_front :
    step { State.reset with pending := [.stampSecond, .pollDue] } = exec .stampSecond { State.reset with pending := [.pollDue] } :=
  rfl

/-! ### Witnesses: for each statement with hypotheses, states and operands that meet all of them -/

theorem test_witness_StepRunsTheFrontCommand :
    ({ State.reset with pending := [.stampSecond] } : State).pending = .stampSecond :: [] := rfl

theorem test_witness_IdleStepIsOneTick :
    let s : State := { State.reset with now := 624 }
    let r : State := { State.reset with phase := .inReset .warm, resetPin := true }
    s.pending = [] ∧ s.phase = .running ∧ r.pending = [] ∧ r.phase ≠ .running
      ∧ ((State.reset.slot .m1 .program .issued .busy 0).atMs 11).dueEvents.contains (.busyTimerExpiry .m1) = true
      ∧ ((State.reset.slot .m1 .program .issued .busy 0).atMs 10).dueEvents.contains (.busyTimerExpiry .m1) = false
      ∧ (State.reset.atMs 2000).dueEvents.contains .dozeEntry = true
      ∧ ({ State.reset with now := 1999999 } : State).dueEvents.contains .dozeEntry = false := by decide +kernel

theorem test_witness_CommandsAnswerNextAndKeepQueueAndPins :
    (∀ k, Instr.insertStart ≠ .ceAssert k ∧ Instr.insertStart ≠ .ceDeassert k) ∧ Instr.insertStart ≠ .resetAssert
      ∧ (∀ i, Instr.insertStart ≠ .resetRelease i) ∧ Instr.insertStart ≠ .powerLoss ∧ (∀ i, Instr.insertStart ≠ .powerOn i)
      ∧ Instr.insertStart ∉ [.readClose, .reportPage4, .reportPage5, .reportPage6, .reportPage7] :=
  ⟨fun _ => ⟨nofun, nofun⟩, nofun, nofun, nofun, nofun, by decide⟩

theorem test_witness_SettingsStayInRange :
    let s : State := { State.reset.carrying (frame 0x01 1 [1, 0, 0, 0, 9]) with pending := [.setSetting] }
    s.SettingsInRange ∧ ∃ t, step s = .next t := ⟨by decide +kernel, _, rfl⟩

theorem test_witness_OneInsertPerModuleStays :
    let s : State :=
      { (State.reset.slot .m2 .erase .issued .suspending 0).queues (insertOf .m2 .suspend) with
        pending := [.moduleReadyReturn .m2] }
    s.OneInsertPerModule ∧ ∃ t, step s = .next t := ⟨by decide +kernel, _, rfl⟩

theorem test_witness_WindowSumStaysRight :
    let s : State := { State.reset.sampling with pending := [.sampleArrival (reply 0 0 200)] }
    s.WindowSummed ∧ ∃ t, step s = .next t := ⟨by decide +kernel, _, rfl⟩

theorem test_witness_VoltageSumStaysRight :
    let s : State :=
      { State.reset with
        gauge := { State.reset.gauge with voltageRunning := true }, pending := [.voltageSampleArrival 3000] }
    s.VoltageSummed ∧ ∃ t, step s = .next t := ⟨by decide +kernel, _, rfl⟩

theorem test_witness_SuspectListStaysKeyed :
    let s : State :=
      { State.reset.slot .m1 .program .issued .busy 0 with
        ret := { (State.reset.slot .m1 .program .issued .busy 0).ret with
          suspects := (List.range 48).map fun n => suspect .m0 n (some 0) .torn, overflow := 255 }
        pending := [.busyTimerExpiry .m1] }
    s.SuspectsKeyed ∧ ∃ t, step s = .next t := ⟨by decide +kernel, _, rfl⟩

theorem test_witness_ShockLogStaysOrdered :
    let s : State :=
      { State.reset.sampling with
        ret := { Retained.setUp with shocks := (List.range 32).map fun n => shock (n + 1), epoch := 32, overwritten := 65535 }
        pending := [.sampleArrival (reply 400 400 400)] }
    s.ShocksOrdered ∧ ∃ t, step s = .next t := ⟨by decide +kernel, _, rfl⟩

theorem test_witness_ChargeStaysInside :
    let s : State :=
      { State.reset with
        gauge := { State.reset.gauge with q := 21600000000, currentRunning := true }, pending := [.currentSampleArrival (-1)] }
    s.ChargeInside ∧ ∃ t, step s = .next t := ⟨by decide +kernel, _, rfl⟩

theorem test_witness_CountersStayInRange :
    let s : State :=
      { selecting .m1 with counters := { Counters.zero with protocol := 65535 }, pending := [.suspend] }
    s.CountersInRange ∧ ∃ t, step s = .next t := ⟨fun i => by cases i <;> decide +kernel, _, rfl⟩

theorem test_witness_OpenCodeOpensASequence :
    let q := seqOf .erase .m3 [0x00, 0x00] .latching
    let s : State := { State.reset.opened q with ce := (selecting .m1).ce }
    (selecting .m1).phase = .running ∧ (selecting .m1).Selects .m1 ∧ (selecting .m1).relay.seq = none
      ∧ s.phase = .running ∧ s.Selects .m1 ∧ s.relay.seq = some q ∧ s.ended.counters.protocol = 1
      ∧ (reading (read 4127)).Selects .m2 ∧ (reading (read 4127)).ended.counters.skipped = 1
      ∧ (programming (program 9 true none)).ended.tag.program = none := by decide +kernel

theorem test_witness_OpenCodeUnderWaitIsIgnored :
    let a := (selecting .m1).runs (insertOf .m2 .suspend)
    let b : State := { State.reset with ce := ⟨true, true, false, false⟩ }
    let r : State := { selecting .m1 with phase := .inReset .warm, resetPin := true }
    a.phase = .running ∧ a.asserted = [.m1] ∧ a.wait = true ∧ b.phase = .running ∧ 2 ≤ b.asserted.length
      ∧ State.reset.asserted = [] ∧ ({ selecting .m1 with phase := .unpowered } : State).phase = .unpowered
      ∧ r.phase = .inReset .warm ∧ r.asserted ≠ [] := by decide +kernel

/-- The address the sequence has once it takes the address cycle `b`. -/
def withCycle (q : Seq) (b : Byte) : LatchedAddr := ({ q with latched := q.latched ++ [b] } : Seq).addr

theorem test_witness_AddressCyclesLatchAndClassify :
    let q1 := seqOf .read .m1 [0, 0, 0] .latching
    let q2 := seqOf .identify .m2 [] .latching
    let busy := ({ State.reset with
      relay := { Relay.initial with readBusy := (PerModule.const none).set .m2 (some 1000) } } : State).opened q2
    let wide := seqOf .program .m3 [0x20, 0x10, 0xFF, 0xFF] .latching
    ((State.reset.opened q1).InSequence q1 ∧ q1.handling = .latching ∧ q1.latched.length + 1 < q1.kind.addressCycles)
      ∧ (busy.InSequence q2 ∧ q2.latched.length + 1 = q2.kind.addressCycles ∧ (withCycle q2 0).column < 4128
        ∧ q2.module.val ≤ busy.straps.modCnt.toNat ∧ busy.viewBusy q2.module = true)
      ∧ ((State.reset.opened wide).InSequence wide ∧ 4128 ≤ (0x10 : Byte).toNat * 256 + (0x20 : Byte).toNat) := by
  decide +kernel

/-- The last column of a page, in a read or program of module 3 whose last address cycle is still to come. -/
def lastColumn (kind : SeqKind) : Seq := seqOf kind .m3 [0x1F, 0x10, 0xFF, 0xFF] .latching

theorem test_witness_AddressCyclesPassToTheModule :
    ∀ kind ∈ [SeqKind.read, .program],
      let q := lastColumn kind
      let s := State.reset.opened q
      s.InSequence q ∧ q.latched.length + 1 = kind.addressCycles ∧ (withCycle q 0x03).column = 4127
        ∧ s.viewBusy .m3 = false ∧ s.relay.stuck.get .m3 = false ∧ q.module.val ≤ s.straps.modCnt.toNat := by
  decide +kernel

theorem test_witness_AddressCyclesOfAnErase :
    let erase := seqOf .erase .m3 [0xFF, 0xFF] .latching
    let s := State.reset.opened erase
    let few : State := { s with straps := { svcSel := 0, modCnt := 2 } }
    let stuck : State := { s with relay := { s.relay with stuck := PerModule.const true } }
    (s.InSequence erase ∧ erase.latched.length + 1 = erase.kind.addressCycles ∧ erase.latched = [0xFF, 0xFF]
        ∧ (withCycle erase 0x03).column < 4128)
      ∧ (few.InSequence erase ∧ few.straps.modCnt.toNat < erase.module.val)
      ∧ (stuck.InSequence erase ∧ stuck.relay.stuck.get erase.module = true ∧ stuck.viewBusy erase.module = false) := by
  decide +kernel

theorem test_witness_AddressCyclesOfTheServiceBlock :
    let svcErase := seqOf .erase .m0 [0x80, 0xFF] .latching
    (∀ page ∈ [(0x00 : Byte), 0x01, 0x07, 0x08, 0x7F], ∀ kind ∈ [SeqKind.read, .program],
        let q := seqOf kind .m0 [0x1F, 0x10, 0x80 + page, 0xFF] .latching
        let s := State.reset.opened q
        s.InSequence q ∧ q.module = .m0
          ∧ (withCycle q 0x03).block = BitVec.ofNat 11 (2047 - State.reset.straps.svcSel.toNat)
          ∧ (withCycle q 0x03).page.toNat = page.toNat ∧ s.viewBusy .m0 = false)
      ∧ ((State.reset.opened svcErase).InSequence svcErase ∧ (withCycle svcErase 0x03).block = 2047) := by decide +kernel

theorem test_witness_AddressCyclesElsewhere :
    let q := seqOf .read .m1 [0, 0, 0, 0] .latching
    let past := seqOf .program .m1 (pageCycles 0 713 40) .passed
    let on : Relay → State := fun r => { State.reset with relay := r }
    (on { Relay.initial with seq := some q, absorb := true }).relay.absorb = true
      ∧ (on { Relay.initial with nested := some .fromModule }).relay.nested ≠ none
      ∧ State.reset.relay.seq = none
      ∧ ((on { Relay.initial with seq := some past }).relay.seq = some past ∧ past.handling ≠ .latching)
      ∧ State.reset.phase = .running := by decide +kernel

theorem test_witness_StatusOpensWithItsAnswer :
    let s : State := { selecting .m1 with relay := { Relay.initial with readyFail := PerModule.const true } }
    let q : Seq := { seqOf .read .m2 (pageCycles 0 713 40) .passed with closeTaken := true }
    let qi := seqOf .identify .m2 [] .latching
    let own : StatusAnswer → State := fun a =>
      { reading (read 5) with relay := { (reading (read 5)).relay with nested := some a } }
    (s.phase = .running ∧ s.Selects .m1 ∧ s.statusAnswer .m1 = .byPart 0x81 ∧ s.relay.seq = none
        ∧ (selecting .m1).statusAnswer .m1 = .fromModule)
      ∧ ((State.reset.opened qi).Selects .m2 ∧ (State.reset.opened qi).relay.seq = some qi ∧ qi.handling = .latching)
      ∧ ((reading (read 5)).phase = .running ∧ (reading (read 5)).Selects .m2 ∧ (reading (read 5)).relay.seq = some q
        ∧ q.kind = .read ∧ q.module = .m2 ∧ q.handling ≠ .latching)
      ∧ ∀ a ∈ [StatusAnswer.fromModule, .byPart 0x00],
        (own a).phase = .running ∧ (own a).Selects .m2 ∧ (own a).relay.absorb = false ∧ (own a).relay.nested = some a
          ∧ (own a).relay.seq = some q := by decide +kernel

theorem test_witness_StatusAnswerFollowsTheView :
    let few : State := { State.reset with straps := { svcSel := 0, modCnt := 0 } }
    let live := State.reset.slot .m3 .erase .issued .busy 0
    let checked := State.reset.queues (insertOf .m3 .statusCheck)
    let failed : State := { State.reset with relay := { Relay.initial with readyFail := PerModule.const true } }
    let processing := State.reset.carrying []
    let answered : State := { State.reset with relay := { Relay.initial with serviceAnswer := true } }
    few.straps.modCnt.toNat < ModuleId.m1.val
      ∧ (ModuleId.m3.val ≤ live.straps.modCnt.toNat ∧ (live.slotLive .m3).state ≠ .free)
      ∧ (ModuleId.m3.val ≤ checked.straps.modCnt.toNat ∧ checked.checkPending .m3 = true)
      ∧ ((failed.slotLive .m3).state = .free ∧ failed.checkPending .m3 = false ∧ failed.relay.readyFail.get .m3 = true)
      ∧ ((processing.slotLive .m0).state = .free ∧ processing.checkPending .m0 = false
        ∧ processing.relay.readyFail.get .m0 = false ∧ processing.svc.processing ≠ none)
      ∧ (answered.svc.processing = none ∧ answered.relay.serviceAnswer = true ∧ answered.relay.readyFail.get .m0 = false)
      ∧ (State.reset.svc.processing = none ∧ State.reset.relay.serviceAnswer = false) := by decide +kernel

theorem test_witness_ModuleResetStartsItsBusyPeriod :
    let s := selecting .m3
    let few : State := { s with straps := { svcSel := 0, modCnt := 2 } }
    s.phase = .running ∧ s.Selects .m3 ∧ ModuleId.m3.val ≤ s.straps.modCnt.toNat
      ∧ (s.slotLive .m3).state = .free
      ∧ ((s.slot .m3 .erase .held .waiting 0).slotLive .m3).state = .held
      ∧ ((s.slot .m3 .erase .issued .busy 0).slotLive .m3).state = .issued
      ∧ ((s.slot .m3 .erase .suspended .parked 0).slotLive .m3).state = .suspended
      ∧ few.Selects .m3 ∧ few.straps.modCnt.toNat < ModuleId.m3.val := by decide +kernel

theorem test_witness_SuspendAndResumeAreDiscarded :
    (selecting .m0).phase = .running ∧ (selecting .m0).Selects .m0 ∧ (reading (read 5)).Selects .m2 := by decide +kernel

theorem test_witness_ChipEnableWakesThePart :
    let d : State := { State.reset with doze := { dozing := true, idleFromMs := 0 } }
    State.reset.phase = .running ∧ State.reset.doze.dozing = false ∧ d.phase = .running ∧ d.doze.dozing = true := by
  decide +kernel

theorem test_witness_ChipDisableEndsTheSequence :
    (∀ q, (selecting .m2).relay.seq = some q → q.module ≠ .m2 ∨ (q.kind ≠ .read ∧ q.kind ≠ .identify))
      ∧ (reading (read 4127)).phase = .running
      ∧ (reading (read 4127)).relay.seq = some { seqOf .read .m2 (pageCycles 0 713 40) .passed with closeTaken := true }
      ∧ (reading (read 4127)).tag.read = some (read 4127)
      ∧ (State.reset.opened (seqOf .identify .m2 [0] .passed)).relay.seq = some (seqOf .identify .m2 [0] .passed) :=
  ⟨fun _ h => (nomatch h), by decide +kernel⟩

theorem test_witness_ChipDisableEndsOtherReads :
    ∀ h ∈ [Handling.latching, .discarded, .refused, .absent, .svcBlank, .svcReport 7 4127], ∀ kind ∈ [SeqKind.read, .identify],
      (State.reset.opened (seqOf kind .m2 [] h)).phase = .running
        ∧ (State.reset.opened (seqOf kind .m2 [] h)).relay.seq = some (seqOf kind .m2 [] h) ∧ (seqOf kind .m2 [] h).module = .m2
        ∧ (seqOf kind .m2 [] h).kind = kind ∧ (seqOf kind .m2 [] h).handling = h := by decide +kernel

theorem test_witness_ColumnMoveUntagsTheProgram :
    let q := seqOf .program .m2 (pageCycles 0 713 40) .passed
    let s := programming (program 9 true none)
    let qf := seqOf .program .m0 (pageCycles 0 2047 0) .svcFrame
    let f := State.reset.opened qf
    let fs : State := { f with svc := { f.svc with frame := some ⟨List.replicate 18 0xFF, 4127⟩ } }
    let qr : Seq := { seqOf .read .m2 (pageCycles 0 713 40) .passed with closeTaken := true }
    let r := reading (read 4127)
    let busy : State := { r with relay := { r.relay with readBusy := (PerModule.const none).set .m2 (some 1000) } }
    ((4127 : BitVec 16).toNat < 4128 ∧ 4128 ≤ (4128 : BitVec 16).toNat)
      ∧ (s.phase = .running ∧ s.relay.absorb = false ∧ s.relay.seq = some q ∧ q.kind = .program ∧ q.handling = .passed
        ∧ s.tag.program = some (program 9 true none))
      ∧ (fs.relay.absorb = false ∧ fs.relay.seq = some qf ∧ qf.kind = .program ∧ qf.handling = .svcFrame
        ∧ fs.svc.frame = some ⟨List.replicate 18 0xFF, 4127⟩)
      ∧ (r.relay.absorb = false ∧ r.relay.seq = some qr ∧ qr.kind = .read ∧ qr.handling = .passed
        ∧ r.tag.read = some (read 4127) ∧ r.relay.readBusy.get qr.module = none)
      ∧ (busy.relay.seq = some qr ∧ qr.closeTaken = true ∧ busy.relay.readBusy.get qr.module ≠ none
        ∧ busy.tag.read = some (read 4127))
      ∧ ∀ kind ∈ [SeqKind.program, .read],
        ∀ h ∈ [Handling.svcReport 7 0, .svcBlank, .discarded, .refused, .absent],
          (State.reset.opened (seqOf kind .m0 [] h)).relay.seq = some (seqOf kind .m0 [] h)
            ∧ (seqOf kind .m0 [] h).kind = kind ∧ (seqOf kind .m0 [] h).handling = h := by decide +kernel

theorem test_witness_DataByteIsForwardedOrCaptured :
    let q := seqOf .program .m2 (pageCycles 0 713 40) .passed
    let s := programming (program 4094 true none)
    let u := programming (program 4127 false none)
    let qf := seqOf .program .m0 (pageCycles 0 2047 0) .svcFrame
    let f := State.reset.opened qf
    let at_ : Nat → State := fun n => { f with svc := { f.svc with frame := some ⟨List.replicate 18 0xFF, n⟩ } }
    s.phase = .running ∧ s.InSequence q ∧ q.kind = .program ∧ q.handling = .passed
      ∧ s.tag.program = some (program 4094 true none) ∧ (program 4094 true none).pos < 4095
      ∧ u.InSequence q ∧ u.tag.program = some (program 4127 false none) ∧ (program 4127 false none).pos < 4128
      ∧ (at_ 17).InSequence qf ∧ qf.handling = .svcFrame ∧ (at_ 17).svc.frame = some ⟨List.replicate 18 0xFF, 17⟩
      ∧ (at_ 18).svc.frame = some ⟨List.replicate 18 0xFF, 18⟩ ∧ (at_ 4127).svc.frame = some ⟨List.replicate 18 0xFF, 4127⟩ := by
  decide +kernel

theorem test_witness_DataByteElsewhere :
    let beyond := programming (program 4128 true none)
    let nested : State :=
      { reading (read 0) with relay := { (reading (read 0)).relay with nested := some .fromModule } }
    (State.reset.phase = .running ∧ State.reset.relay.absorb = false ∧ State.reset.relay.seq = none)
      ∧ ({ State.reset with relay := { Relay.initial with absorb := true } } : State).relay.absorb = true
      ∧ (nested.relay.absorb = false ∧ nested.relay.nested ≠ none)
      ∧ (beyond.tag.program = some (program 4128 true none) ∧ 4128 ≤ (program 4128 true none).pos)
      ∧ ∀ kind ∈ [SeqKind.read, .program, .erase, .identify, .status],
        ∀ h ∈ [Handling.latching, .passed, .discarded, .refused, .absent, .svcBlank, .svcReport 1 0],
          (State.reset.opened (seqOf kind .m0 [] h)).InSequence (seqOf kind .m0 [] h)
            ∧ (seqOf kind .m0 [] h).kind = kind ∧ (seqOf kind .m0 [] h).handling = h := by decide +kernel

theorem test_witness_TagIsBuiltAtColumn4096 :
    let q := seqOf .program .m2 (pageCycles 0 713 40) .passed
    let p := program 4095 true none
    let s := programming p
    (s.phase = .running ∧ s.InSequence q ∧ q.kind = .program ∧ q.handling = .passed ∧ s.tag.program = some p
        ∧ p.tagged = true ∧ p.pos = 4095)
      ∧ ∀ n ∈ [4096, 4127],
        let p := program n true (some [0xA7])
        let s := programming p
        s.phase = .running ∧ s.InSequence q ∧ s.tag.program = some p ∧ p.tagged = true ∧ p.tag = some [0xA7] ∧ 4096 ≤ p.pos
          ∧ p.pos < 4128 := by decide +kernel

theorem test_witness_BuiltTagReadsBackAsMatch :
    let s := survey State.reset
    let p := program 4096 true none
    let w := 4294967295
    let r : TagRead := { read 4128 with allFF := false, captured := tagBytes s p p.dataCrc w }
    w < 4294967296 ∧ r.module = p.module ∧ r.block = p.block ∧ r.page = p.page ∧ crc32End r.crc = p.dataCrc
      ∧ r.allFF = false ∧ r.captured = tagBytes s p p.dataCrc w := by decide +kernel

/-- Reset's state with the sequence `q` open and the read `r` watched by the tag engine. -/
def watchedRead (q : Seq) (r : TagRead) : State := { State.reset.opened q with tag := { program := none, read := some r } }

theorem test_witness_StrobeIsAnswered :
    let q : Seq := { seqOf .read .m2 (pageCycles 0 713 40) .passed with closeTaken := true }
    let before := seqOf .read .m2 (pageCycles 0 713 40) .passed
    let late : Seq := { q with timedOut := true }
    let s := reading (read 4126)
    let busy : State := { s with relay := { s.relay with readBusy := (PerModule.const none).set .m2 (some 1000) } }
    let cut := seqOf .read .m1 [0, 0] .latching
    (s.phase = .running ∧ s.InSequence q ∧ s.relay.readBusy.get q.module = none ∧ s.tag.read = some (read 4126)
        ∧ (read 4126).inOrder = true ∧ (read 4126).settled = false ∧ (read 4126).pos < 4127)
      ∧ ((State.reset.opened cut).InSequence cut ∧ cut.handling = .latching)
      ∧ ((watchedRead before (read 0)).InSequence before ∧ before.closeTaken = false)
      ∧ ((watchedRead late (read 0)).InSequence late ∧ late.timedOut = true)
      ∧ (busy.InSequence q ∧ q.timedOut = false ∧ busy.relay.readBusy.get q.module ≠ none)
      ∧ ((watchedRead q { read 4127 with inOrder := false }).InSequence q
        ∧ ({ read 4128 with settled := true } : TagRead).settled = true) := by decide +kernel

theorem test_witness_StrobeOutsideASequenceIsAnswered :
    let q := seqOf .read .m2 (pageCycles 0 713 40) .discarded
    let on : Relay → State := fun r => { State.reset with relay := r }
    (on { Relay.initial with absorb := true }).relay.absorb = true
      ∧ (∀ stray ∈ [false, true],
        let s := on { Relay.initial with stray := stray }
        s.relay.absorb = false ∧ s.relay.seq = none ∧ s.relay.stray = stray)
      ∧ (∀ a ∈ [StatusAnswer.fromModule, .byPart 0x81],
        let s := on { Relay.initial with seq := some q, nested := some a }
        s.relay.absorb = false ∧ s.relay.seq = some q ∧ s.relay.nested = some a)
      ∧ State.reset.phase = .running := by decide +kernel

theorem test_witness_StrobeOfAReportIsAnswered :
    let blank : Bool → Seq := fun c => { seqOf .read .m0 (pageCycles 0 2047 127) .svcBlank with closeTaken := c }
    let report : Bool → Seq := fun c => { seqOf .read .m0 (pageCycles 4127 2047 7) (.svcReport 7 4127) with closeTaken := c }
    let shown : State :=
      { State.reset.opened (report true) with svc := { Service.initial with snapshot := some { page := 7, content := [] } } }
    (∀ c ∈ [false, true], (State.reset.opened (blank c)).InSequence (blank c) ∧ (blank c).handling = .svcBlank
        ∧ (State.reset.opened (report c)).InSequence (report c) ∧ (report c).handling = .svcReport 7 4127
        ∧ (blank c).closeTaken = c ∧ (report c).closeTaken = c)
      ∧ (shown.InSequence (report true) ∧ shown.svc.processing = none ∧ shown.svc.snapshot = some { page := 7, content := [] })
      ∧ (shown.carrying []).svc.processing ≠ none := by decide +kernel

theorem test_witness_StrobeOfOtherSequencesIsAnswered :
    let qi := seqOf .identify .m1 [0] .absent
    let ok := seqOf .identify .m1 [0] .passed
    let own := statusSeq .m1 (.byPart 0x81)
    let mod := statusSeq .m1 .fromModule
    let qp := seqOf .program .m2 (pageCycles 0 713 40) .passed
    let qe := seqOf .erase .m3 (rowCycles 1400 0) .refused
    ((State.reset.opened ok).InSequence ok ∧ ok.kind = .identify ∧ ok.handling = .passed)
      ∧ ((State.reset.opened qi).InSequence qi ∧ qi.kind = .identify ∧ qi.handling = .absent)
      ∧ ((State.reset.opened own).InSequence own ∧ own.kind = .status ∧ own.handling = .passed ∧ own.answer = .byPart 0x81)
      ∧ ((State.reset.opened mod).InSequence mod ∧ mod.kind = .status ∧ mod.handling = .passed ∧ mod.answer = .fromModule)
      ∧ ((State.reset.opened qp).InSequence qp ∧ qp.kind = .program ∧ qp.handling = .passed)
      ∧ ((State.reset.opened qe).InSequence qe ∧ qe.kind = .erase ∧ qe.handling = .refused) := by decide +kernel

/-- A read of block 713, page 40 of module 2 at column 4127 whose tag columns hold `tag` but for its last byte. -/
def atLast (tag : List Byte) (crc : BitVec 32) : TagRead :=
  { read 4127 with crc := crc, allFF := false, captured := tag.take 31 }

theorem test_witness_LastColumnSettlesTheRead :
    let q : Seq := { seqOf .read .m2 (pageCycles 0 713 40) .passed with closeTaken := true }
    let key : SuspectKey := ⟨.m2, 713, some 40⟩
    let p := program 4096 true none
    let tag := tagBytes State.reset p p.dataCrc 1
    let other := tagBytes State.reset { p with module := .m3 } p.dataCrc 1
    let read_ : TagRead → Bool := fun r =>
      let s := reading r
      decide (s.phase = .running ∧ s.InSequence q ∧ s.relay.readBusy.get q.module = none ∧ s.tag.read = some r
        ∧ r.inOrder = true ∧ r.settled = false ∧ r.pos = 4127)
    let isTag : List Byte → Bool := fun t => decide (t.take 2 = [0xA7, 0x3C] ∧ (crc16 (t.take 30)).toNat = ofBe (t.drop 30))
    let echo := (addressEcho .m2 713 40).toNat
    let holds : State :=
      { State.reset with ret := { Retained.setUp with suspects := [suspect .m2 713 (some 40) .mismatch] } }
    (read_ { read 4127 with captured := List.replicate 31 0xFF } ∧ (read 4127).allFF = true)
      ∧ (read_ (atLast (List.replicate 32 0x00) crc32Start) ∧ isTag (List.replicate 32 0x00) = false)
      ∧ (read_ (atLast other crc32Start) ∧ isTag other = true ∧ ofBe ((other.drop 19).take 4) ≠ echo)
      ∧ (read_ (atLast tag 0) ∧ isTag tag = true ∧ ofBe ((tag.drop 19).take 4) = echo
        ∧ ofBe ((tag.drop 2).take 4) ≠ (~~~(0 : BitVec 32)).toNat)
      ∧ (read_ (atLast tag crc32Start) ∧ ofBe ((tag.drop 2).take 4) = (~~~crc32Start).toNat)
      ∧ (atLast tag 0).captured ++ tag.drop 31 = tag
      ∧ (∀ e ∈ State.reset.ret.suspects, e.key ≠ key)
      ∧ findSuspect holds.ret.suspects key = some (suspect .m2 713 (some 40) .mismatch) := by decide +kernel

theorem test_witness_ReadCloseStartsTheBusyPeriod :
    ∀ kind ∈ [SeqKind.read, .program, .erase],
      ∀ h ∈ [Handling.passed, .discarded, .refused, .absent, .svcBlank, .svcReport 1 0, .svcReport 7 4127],
      ∀ nested ∈ [none, some StatusAnswer.fromModule],
        let q := seqOf kind .m2 (pageCycles 4127 713 40) h
        let s : State :=
          { State.reset.opened q with relay := { (State.reset.opened q).relay with nested := nested } }
        s.phase = .running ∧ s.relay.absorb = false ∧ s.relay.seq = some q ∧ q.kind = kind ∧ q.closeTaken = false
          ∧ q.handling = h ∧ q.handling ≠ .latching := by
  decide +kernel

theorem test_witness_UnplacedCodeIsCounted :
    let taken := { seqOf .read .m2 (pageCycles 0 713 40) .passed with closeTaken := true }
    (State.reset.phase = .running ∧ channelCodeOf 0x00 = none ∧ State.reset.relay.absorb = false ∧ State.reset.relay.seq = none)
      ∧ ({ State.reset with relay := { Relay.initial with absorb := true } } : State).relay.absorb = true
      ∧ ((reading (read 0)).relay.seq = some taken ∧ taken.handling ≠ .latching ∧ taken.closeTaken = true)
      ∧ ∀ kind ∈ [SeqKind.read, .program, .erase, .identify, .status], ∀ h ∈ [Handling.latching, .passed],
        let s := State.reset.opened (seqOf kind .m1 [] h)
        s.phase = .running ∧ s.relay.absorb = false ∧ s.relay.nested = none ∧ s.relay.seq = some (seqOf kind .m1 [] h)
          ∧ (seqOf kind .m1 [] h).kind = kind ∧ (seqOf kind .m1 [] h).handling = h := by decide +kernel

theorem test_code_bytes_pick_their_commands :
    ([0x05, 0x15, 0x0B, 0x1B, 0x0E, 0x1E, 0x0C, 0x0F, 0x06, 0x07, 0x09, 0x0A, 0x00] : List Byte).map (codeCommand · 4127)
      = [.readOpen, .readClose, .programOpen, .programClose, .eraseOpen, .eraseClose, .status, .moduleReset, .suspend, .resume,
         .identify, .columnMove 4127, .unplacedCode 0x00] := by decide

theorem test_witness_ConfirmIsIssued :
    let q := seqOf .program .m2 (pageCycles 0 713 40) .passed
    let tag : List Byte := List.replicate 32 0xA7
    let b := (programming (program 5 false none)).watch .blind (some 7)
    let qe := seqOf .erase .m3 (rowCycles 1400 0) .passed
    (∀ p ∈ [program 4128 true (some tag), program 4096 true (some tag), program 0 true none, program 4128 false none],
      let s := programming p
      s.phase = .running ∧ s.InSequence q ∧ q.handling = .passed ∧ q.closeTaken = false ∧ s.mon.state = .calm
        ∧ q.kind = .program ∧ s.gauge.level ≠ .critical ∧ s.tag.program = some p)
      ∧ (b.InSequence q ∧ b.mon.state = .blind ∧ b.tag.program = some (program 5 false none))
      ∧ (erasing.phase = .running ∧ erasing.InSequence qe ∧ qe.handling = .passed ∧ qe.closeTaken = false
        ∧ erasing.mon.state = .calm ∧ qe.kind = .erase ∧ erasing.gauge.level = .normal) := by decide +kernel

theorem test_witness_ConfirmIsHeld :
    let q := seqOf .erase .m3 (rowCycles 1400 0) .passed
    let s := erasing.watch .settling (some 71)
    let qp := seqOf .program .m2 (pageCycles 0 713 40) .passed
    let p := (programming (program 4095 true none)).watch .falling (some 71)
    (s.phase = .running ∧ s.InSequence q ∧ q.kind = .erase ∧ q.handling = .passed ∧ q.closeTaken = false
        ∧ s.mon.state = .settling ∧ s.mon.openRec = some 71 ∧ s.gauge.level = .normal)
      ∧ (p.phase = .running ∧ p.InSequence qp ∧ qp.kind = .program ∧ qp.handling = .passed ∧ qp.closeTaken = false
        ∧ p.mon.state = .falling ∧ p.mon.openRec = some 71 ∧ p.gauge.level ≠ .critical
        ∧ p.tag.program = some (program 4095 true none)) := by decide +kernel

theorem test_witness_ConfirmIsRefusedByLevel :
    let q := seqOf .erase .m3 (rowCycles 1400 0) .passed
    let low : State := { erasing with gauge := { erasing.gauge with chargeLow := true } }
    let qp := seqOf .program .m2 (pageCycles 0 713 40) .passed
    let p := programming (program 4096 true (some (List.replicate 32 0xA7)))
    let dead : State := { p with gauge := { p.gauge with voltageLow := true } }
    (low.phase = .running ∧ low.InSequence q ∧ q.handling = .passed ∧ q.closeTaken = false
        ∧ (low.slotRec q.module).state = .free ∧ q.kind = .erase ∧ low.gauge.level = .reserve)
      ∧ (dead.phase = .running ∧ dead.InSequence qp ∧ qp.handling = .passed ∧ qp.closeTaken = false
        ∧ (dead.slotRec qp.module).state = .free ∧ qp.kind = .program ∧ dead.gauge.level = .critical
        ∧ dead.tag.program = some (program 4096 true (some (List.replicate 32 0xA7)))) := by decide +kernel

theorem test_witness_ReadyReturnGoesToWhatWaits :
    let busy : State := { State.reset with relay := { Relay.initial with readBusy := PerModule.const (some 1000) } }
    let reset : State := { State.reset with relay := { Relay.initial with resetBusy := PerModule.const (some 5000) } }
    let left : State := { State.reset with relay := { Relay.initial with residual := PerModule.const (some 50000) } }
    let slot := State.reset.slot .m2 .erase .issued .suspending 0
    busy.phase = .running ∧ busy.relay.readBusy.get .m2 ≠ none
      ∧ (reset.relay.readBusy.get .m2 = none ∧ reset.relay.resetBusy.get .m2 ≠ none)
      ∧ (left.relay.readBusy.get .m2 = none ∧ left.relay.resetBusy.get .m2 = none ∧ left.relay.residual.get .m2 ≠ none)
      ∧ (State.reset.relay.residual.get .m2 = none ∧ (State.reset.slotLive .m2).state = .free)
      ∧ (slot.relay.readBusy.get .m2 = none ∧ slot.relay.resetBusy.get .m2 = none ∧ slot.relay.residual.get .m2 = none
        ∧ (slot.slotLive .m2).state = .issued ∧ (slot.slotLive .m2).step = some .suspending) := by decide +kernel

theorem test_witness_ReadyReturnIsKeptOrIgnored :
    let released := State.reset.slot .m2 .erase .held .releasing 0
    let resumed := (State.reset.slot .m2 .erase .suspended .resuming 0).runs (insertOf .m2 .resume)
    ((released.slotLive .m2).state = .held ∧ (released.slotLive .m2).step = some .releasing)
      ∧ ((resumed.slotLive .m2).state = .suspended ∧ (resumed.slotLive .m2).step = some .resuming
        ∧ resumed.arb.running = some (insertOf .m2 .resume))
      ∧ ∀ s ∈ [State.reset.slot .m2 .erase .held .waiting 0, State.reset.slot .m2 .erase .suspended .parked 0,
          State.reset.slot .m2 .erase .suspended .resuming 0, State.reset.slot .m2 .erase .issued .checking 0],
        s.phase = .running ∧ s.relay.readBusy.get .m2 = none ∧ s.relay.resetBusy.get .m2 = none
          ∧ s.relay.residual.get .m2 = none ∧ s.arb.running = none
          ∧ ¬((s.slotLive .m2).state = .issued
            ∧ ((s.slotLive .m2).step = some .busy ∨ (s.slotLive .m2).step = some .suspending))
          ∧ ¬((s.slotLive .m2).state = .held ∧ (s.slotLive .m2).step = some .releasing) := by decide +kernel

theorem test_witness_BusyLimitMakesTheModuleStuck :
    let busy (s : State) : State :=
      { s with
        now := 1000
        relay :=
          { s.relay with
            readBusy := PerModule.const (some 1000), resetBusy := PerModule.const (some 1000)
            residual := PerModule.const (some 1000) } }
    let q : Seq := { seqOf .read .m2 (pageCycles 0 713 40) .passed with closeTaken := true }
    (∀ s ∈ [busy State.reset, busy (reading (read 0))],
      s.phase = .running ∧ s.now ≤ 1000 ∧ s.relay.readBusy.get .m2 = some 1000 ∧ s.relay.resetBusy.get .m2 = some 1000
        ∧ s.relay.residual.get .m2 = some 1000)
      ∧ (busy State.reset).relay.seq = none
      ∧ ((busy (reading (read 0))).relay.seq = some q ∧ q.module = .m2 ∧ q.kind = .read ∧ q.handling = .passed
        ∧ q.closeTaken = true ∧ (busy (reading (read 0))).tag.read = some (read 0)) := by decide +kernel

theorem test_witness_BusyTimerExpiryClosesTimedOut :
    let s := State.reset.slot .m1 .program .issued .busy 0
    let h := State.reset.slot .m1 .program .held .releasing 0
    let c0 := State.reset.slot .m1 .program .issued .checking 0
    let c : State := { c0 with slots := c0.slots.set .m1 { c0.slotLive .m1 with timerFrom := none } }
    let e := suspect .m1 55 (some 3) .torn
    s.phase = .running ∧ (s.slotLive .m1).state = .issued ∧ (s.slotLive .m1).timerFrom = some 0
      ∧ h.phase = .running ∧ (h.slotLive .m1).state ≠ .issued
      ∧ c.phase = .running ∧ (c.slotLive .m1).state = .issued ∧ (c.slotLive .m1).timerFrom = none
      ∧ findSuspect [e] e.key = some e ∧ ∀ x ∈ ([] : List Suspect), x.key ≠ e.key := by decide +kernel

theorem test_witness_HoldLimitReleasesTheSlot :
    let s := ({ State.reset with releaseQueue := [.m0] } : State).slot .m0 .program .held .waiting 30050 |>.atMs 31250
    s.phase = .running ∧ (s.slotLive .m0).state = .held ∧ (s.slotLive .m0).step = some .waiting
      ∧ (s.slotRec .m0).holdStart = some 30050 ∧ ∀ e ∈ s.arb.queue, e.module ≠ .m0 := by decide +kernel

theorem test_witness_InsertStartRunsTheHead :
    let e : InsertKind → Insert := insertOf .m3
    let s : InsertKind → State := fun k =>
      { State.reset with now := 2, arb := { Arbiter.initial with queue := [e k], gapFrom := some 0 } }
    (∀ k ∈ [InsertKind.statusCheck, .suspend, .resume, .release],
      (s k).phase = .running ∧ (s k).arb.queue = e k :: [] ∧ (s k).relay.seq = none ∧ (s k).wait = false
        ∧ (s k).arb.gapFrom = some 0 ∧ 0 + 2 ≤ (s k).now)
      ∧ (((s .release).slot .m3 .erase .held .releaseQueued 0).slotLive .m3).state = .held ∧ (s .release).mon.state = .calm
      ∧ (((s .resume).slot .m3 .erase .suspended .resuming 0).slotLive .m3).state = .suspended := by decide +kernel

theorem test_witness_InsertStartExposesAForcedRelease :
    let e : Insert := { module := .m3, kind := .release, cause := some .forced }
    let s : State := (({ State.reset with arb := { Arbiter.initial with queue := [e] } } : State).slot .m3 .erase .held
      .releaseQueued 0).watch .falling (some 71)
    let x : State := s.setSlotRec .m3 { s.slotRec .m3 with exposure := some ⟨70, 3⟩ }
    s.phase = .running ∧ s.arb.queue = e :: [] ∧ s.relay.seq = none ∧ s.wait = false ∧ s.arb.gapFrom = none
      ∧ (s.slotLive .m3).state = .held ∧ s.mon.state = .falling ∧ s.mon.openRec = some 71 ∧ (s.slotRec .m3).exposure = none
      ∧ (x.slotRec .m3).exposure ≠ none ∧ (x.slotLive .m3).state = .held ∧ x.arb.queue = e :: [] := by decide +kernel

/-- The entry of an exposed erase under a reason of its own, and of an exposed untagged program under EXPOSED (R102). -/
theorem test_witness_SlotEntry :
    let x : Exposure := { record := 7, offset := 0 }
    let erase : SlotRec := { SlotRec.blank with kind := some .erase, block := some 2047, exposure := some x }
    let program : SlotRec := { erase with kind := some .program, page := some 127, tagged := false, writeSeq := none }
    erase.entry .m3 .failed 9 =
        { key := ⟨.m3, 2047, none⟩, reason := .failed, verdict := .isOpen, writeSeq := none, shock := none, stamp := 9 }
      ∧ program.entry .m0 .exposed 9 =
        { key := ⟨.m0, 2047, some 127⟩, reason := .exposed, verdict := .isOpen, writeSeq := none, shock := some 7, stamp := 9 }
      := by decide +kernel

theorem test_witness_StatusCheckSettlesTheSlot :
    let s := (State.reset.slot .m1 .program .issued .checking 0).runs (insertOf .m1 .statusCheck)
    let flagged (s : State) : State :=
      { s with slots := s.slots.set .m1 { s.slotLive .m1 with suspendFlag := true } }
    let u := flagged ((State.reset.slot .m1 .erase .issued .suspending 0).runs (insertOf .m1 .statusCheck))
    let v := flagged ((State.reset.slot .m1 .erase .suspended .rechecking 0).runs (insertOf .m1 .statusCheck))
    s.phase = .running ∧ s.arb.running = some (insertOf .m1 .statusCheck) ∧ (insertOf .m1 .statusCheck).module = .m1
      ∧ (s.slotLive .m1).state = .issued ∧ (s.slotLive .m1).step = some .checking ∧ (s.slotLive .m1).suspendFlag = false
      ∧ ((u.slotLive .m1).state = .issued ∧ (u.slotLive .m1).suspendFlag = true ∧ (u.slotLive .m1).step = some .suspending
        ∧ u.mon.state = .calm ∧ (u.watch .falling (some 1)).mon.state = .falling)
      ∧ ((v.slotLive .m1).state = .suspended ∧ (v.slotLive .m1).suspendFlag = true
        ∧ (v.slotLive .m1).step = some .rechecking)
      ∧ (0x00 : Byte).getLsbD 7 = false ∧ (0x80 : Byte).getLsbD 7 = true ∧ (0x80 : Byte).getLsbD 0 = false
      ∧ (0x81 : Byte).getLsbD 0 = true ∧ (0x40 : Byte).getLsbD 6 = true ∧ (0x81 : Byte).getLsbD 6 = false := by decide +kernel

theorem test_witness_InsertCompletionIsReported :
    let a := (State.reset.slot .m3 .erase .issued .suspending 0).runs (insertOf .m3 .suspend)
    let b := (State.reset.slot .m3 .erase .suspended .resuming 0).runs (insertOf .m3 .resume)
    let c := (State.reset.slot .m3 .erase .held .releasing 0).runs (insertOf .m3 .release)
    let d := (State.reset.slot .m3 .erase .suspended .rechecking 0).runs (insertOf .m3 .suspend)
    let kept : State → State := fun s => { s with slots := s.slots.set .m3 { s.slotLive .m3 with keptReturn := true } }
    let asked : State → State := fun s => s.queues (insertOf .m3 .suspend)
    (a.phase = .running ∧ a.arb.running = some (insertOf .m3 .suspend) ∧ (a.slotLive .m3).state = .issued)
      ∧ (d.arb.running = some (insertOf .m3 .suspend) ∧ (d.slotLive .m3).state = .suspended)
      ∧ ((State.reset.runs (insertOf .m3 .suspend)).arb.running = some (insertOf .m3 .suspend)
        ∧ ((State.reset.runs (insertOf .m3 .suspend)).slotLive .m3).state = .free)
      ∧ (b.arb.running = some (insertOf .m3 .resume) ∧ (b.slotLive .m3).state = .suspended
        ∧ (b.slotLive .m3).timerValue ≤ 65535 ∧ (b.slotLive .m3).keptReturn = false
        ∧ ((kept b).slotLive .m3).keptReturn = true ∧ ((kept b).slotLive .m3).state = .suspended)
      ∧ (c.arb.running = some (insertOf .m3 .release) ∧ (c.slotLive .m3).state = .held
        ∧ (c.slotLive .m3).keptReturn = false ∧ ((kept c).slotLive .m3).keptReturn = true
        ∧ ((kept c).slotLive .m3).state = .held)
      ∧ ∀ s ∈ [b, c],
        (∃ x ∈ (asked s).arb.queue, x.module = .m3 ∧ x.kind = .suspend) ∧ (asked s).arb.running = s.arb.running
          ∧ ((asked s).slotLive .m3).keptReturn = false := by decide +kernel

theorem test_witness_PollStartsATransfer :
    let s : State := { State.reset with now := 625 }
    s.phase = .running ∧ s.fe.transfer = none ∧ s.now ≤ s.fe.nextPoll := by decide +kernel

theorem test_witness_StaleSampleRepeatsTheLast :
    let s : State := { State.reset.sampling with fe := { State.reset.sampling.fe with staleCount := 62 } }
    s.phase = .running ∧ s.fe.transfer = some 0 ∧ s.now ≤ 0 ∧ s.mon.state = .calm
      ∧ s.fe.window = 128 :: List.replicate 15 128 ∧ dead.status = 0xFF ∧ s.fe.staleCount + 1 < 64
      ∧ s.ret.settings.fallLevel ≤ ((s.fe.sum - 128 + s.fe.last.l1) / ((List.replicate 15 128).length + 1) : Nat) := by
  decide +kernel

theorem test_witness_ImpactInCalmOpensAKnock :
    let s := State.reset.sampling
    let r := reply 0 0 640
    let shocks := (List.range 31).map fun n => shock (n + 1)
    let u : State := { s with ret := { s.ret with shocks := shocks, epoch := 4294967294 } }
    u.phase = .running ∧ u.fe.transfer = some 0 ∧ u.mon.state = .calm ∧ replyFresh r = true
      ∧ u.ret.settings.impactLevel ≤ (correctedSample u.ret.settings r).l1
      ∧ (∀ k ∈ ModuleId.all, (u.slotLive k).state = .free) ∧ u.ShocksOrdered ∧ u.ret.epoch < 4294967295
      ∧ u.ret.shocks.length < 32 ∧ replySaturated u.ret.settings (reply 2047 0 0) = true := by decide +kernel

/-- The part in a monitor state with its counts, a window that holds `v` and a transfer that ends now. -/
def watching (m : MonState) (lowRun settle stale v : Nat) : State :=
  { State.reset.sampling with
    mon := { Monitor.initial with state := m, lowRun := lowRun, settle := settle, openRec := some 1 }
    ret := { Retained.setUp with shocks := [{ shock 1 with isOpen := true }], epoch := 1 }
    fe := { State.reset.sampling.fe with window := List.replicate 16 v, sum := 16 * v, staleCount := stale } }

/-- What decides the clause of a reply: its state, an impact, the average, and the stale count after it. -/
def weighs (s : State) (r : SensorReply) (st : MonState) (impact : Bool) (average stale : Nat) : Bool :=
  let t := s.ret.settings
  let c := if replyFresh r then correctedSample t r else s.fe.last
  decide (s.phase = .running ∧ s.fe.transfer = some 0 ∧ s.ShocksOrdered ∧ s.mon.state = st)
    && (replyFresh r && (decide (t.impactLevel ≤ (c.l1 : Int)) || replySaturated t r)) == impact
    && decide ((s.fe.sum - s.fe.window.headD 0 + c.l1) / 16 = average)
    && decide ((if replyFresh r then 0 else min (s.fe.staleCount + 1) 65535) = stale)

theorem test_witness_SampleReportMovesTheMonitor :
    weighs (watching .calm 0 0 0 128) (reply 0 0 640) .calm true 160 0
      ∧ weighs (watching .calm 23 0 0 37) (reply 0 0 37) .calm false 37 0
      ∧ weighs (watching .calm 22 0 0 37) (reply 0 0 37) .calm false 37 0
      ∧ weighs (watching .calm 23 0 0 38) (reply 0 0 38) .calm false 38 0
      ∧ weighs (watching .falling 0 0 0 76) (reply 0 0 640) .falling true 111 0
      ∧ weighs (watching .falling 0 0 0 77) (reply 0 0 77) .falling false 77 0
      ∧ weighs (watching .falling 0 0 0 76) (reply 0 0 76) .falling false 76 0
      ∧ weighs (watching .struck 0 0 0 128) (reply 0 0 640) .struck true 160 0
      ∧ weighs (watching .struck 0 0 0 128) (reply 0 0 639) .struck false 159 0
      ∧ weighs (watching .settling 0 0 0 128) (reply 0 0 640) .settling true 160 0
      ∧ weighs (watching .settling 23 0 0 37) (reply 0 0 37) .settling false 37 0
      ∧ weighs (watching .settling 0 159 0 96) (reply 0 0 96) .settling false 96 0
      ∧ weighs (watching .settling 0 158 0 232) (reply 0 0 232) .settling false 232 0
      ∧ weighs (watching .calm 0 0 63 128) dead .calm false 128 64
      ∧ weighs (watching .struck 0 0 63 128) dead .struck false 128 64
      ∧ weighs (watching .blind 0 0 64 128) (reply 0 0 128) .blind false 128 0
      ∧ weighs (watching .blind 0 0 64 128) dead .blind false 128 65 := by decide +kernel

/-- The statement has no hypothesis but an open record for the departure; here one slot of each kind takes each signal. -/
theorem test_witness_MonitorSignalsReachTheSlots :
    let s := ((State.reset.slot .m0 .program .held .waiting 0).slot .m1 .erase .issued .busy 0).slot .m2 .erase .suspended
      .parked 0 |>.slot .m3 .erase .held .releaseQueued 0
    let t := { s with releaseQueue := [.m0, .m3], ret := { s.ret with shocks := [{ shock 1 with isOpen := true }] } }
      |>.watch .struck (some 1) |>.queues { module := .m3, kind := .release, cause := some .settled } |>.atMs 1201
    t.mon.openRec = some 1
      ∧ (t.departureSignals.slotRec .m1).exposure = some { record := 1, offset := 1201 }
      ∧ t.departureSignals.arb.queue =
        [insertOf .m1 .suspend, { module := .m0, kind := .release, cause := some .holdLimit },
         { module := .m3, kind := .release, cause := some .holdLimit }]
      ∧ t.calmSignals.arb.queue.map Insert.cause = [some .settled, some .settled, none]
      ∧ t.blindSignals.arb.queue.map Insert.cause = [some .blind, some .blind, none]
      ∧ (t.criticalEntry.slotRec .m3).last = some .refused ∧ t.criticalEntry.counters.holdBreaks = 2 := by decide +kernel

theorem test_witness_SchedulesRunAtTheirDueTimes :
    let s : State := { State.reset with now := 10000, clock := { State.reset.clock with stamp := 4294967295 } }
    s.phase = .running ∧ s.now ≤ s.gauge.nextCurrent ∧ s.now ≤ s.gauge.nextVoltage ∧ s.now ≤ s.gauge.nextCopy
      ∧ s.now ≤ s.clock.nextCopy ∧ s.now ≤ s.clock.nextSecond ∧ s.clock.stamp ≤ 4294967295 := by decide +kernel

theorem test_witness_CurrentSampleIsCounted :
    let s : State := { State.reset with gauge := { State.reset.gauge with currentRunning := true, q := 1080000000 } }
    s.phase = .running ∧ s.gauge.currentRunning = true ∧ (after (.currentSampleArrival 0) s).causes = 0
      ∧ (after (.currentSampleArrival 1) s).causes = 8 := by decide +kernel

theorem test_witness_VoltageSampleEntersTheWindow :
    let s : Nat → Bool → State := fun v low =>
      { State.reset with
        gauge :=
          { State.reset.gauge with
            voltageRunning := true, vWindow := List.replicate 16 v, vSum := 16 * v, voltageLow := low } }
    (∀ v ∈ [3099, 3100, 3199, 3200], ∀ low ∈ [false, true],
      (s v low).phase = .running ∧ (s v low).gauge.voltageRunning = true
        ∧ (s v low).gauge.vWindow = v :: List.replicate 15 v ∧ ((s v low).gauge.vSum - v + v) / 16 = v)
      ∧ (s 3100 false).ret.settings.critMv = 3100
      ∧ (after (.voltageSampleArrival 3099) (s 3099 false)).causes = 8
      ∧ (after (.voltageSampleArrival 3199) (s 3199 true)).causes = 0
      ∧ (after (.voltageSampleArrival 3200) (s 3200 true)).causes = 8 := by decide +kernel

theorem test_witness_DozeEntrySlowsThePart :
    let s := State.reset.atMs 2000
    let u : State := { State.reset with now := 1999999 }
    s.phase = .running ∧ s.quiet = true ∧ s.ret.settings.dozeDelay ≤ ((min (s.now / 1000 - s.doze.idleFromMs) 65535 : Nat) : Int)
      ∧ ((min (u.now / 1000 - u.doze.idleFromMs) 65535 : Nat) : Int) < u.ret.settings.dozeDelay
      ∧ (erasing.atMs 2000).quiet = false := by decide +kernel

theorem test_witness_ResetAbandonsWhatIsInProgress :
    let waiting : State := { erasing with phase := .inReset .powerOn }
    let held : State := { unpowered Retained.setUp with resetPin := true }
    (erasing.phase ≠ .unpowered ∧ erasing.resetPin = false) ∧ (waiting.phase ≠ .unpowered ∧ waiting.resetPin = false)
      ∧ ((unpowered Retained.setUp).phase = .unpowered ∧ (unpowered Retained.setUp).resetPin = false)
      ∧ (held.phase = .unpowered ∧ held.resetPin = true) := by decide +kernel

theorem test_witness_FirstPowerOnSetsUpMemory :
    let s := unpowered { Retained.setUp with marker := false }
    let w : ResetKind → State := fun kind => { s with phase := .inReset kind, resetPin := true }
    (s.phase = .unpowered ∧ s.resetPin = false ∧ s.ret.marker = false)
      ∧ ∀ kind ∈ [ResetKind.warm, .powerOn],
        (w kind).phase = .inReset kind ∧ (w kind).resetPin = true ∧ (w kind).ret.marker = false := by decide +kernel

theorem test_witness_ReconciliationClosesEverySlot :
    let s := unpowered (State.reset.slot .m2 .program .issued .busy 0).ret
    let w : State := { s with phase := .inReset .warm, resetPin := true }
    let cut := unpowered { s.ret with shocks := [{ shock 1 with kind := .dropout, isOpen := true }] }
    let last := unpowered { s.ret with epoch := 4294967295 }
    s.ret.marker = true ∧ s.phase = .unpowered ∧ s.resetPin = false
      ∧ w.ret.marker = true ∧ w.phase = .inReset (if true then .warm else .powerOn) ∧ w.resetPin = true
      ∧ (s.slotRec .m2).state ≠ .free ∧ (State.reset.slotRec .m2).state = .free
      ∧ s.ret.epoch < 4294967295 ∧ 4294967295 ≤ last.ret.epoch
      ∧ cut.ret.shocks.any (fun r => r.isOpen && decide (r.kind = .dropout)) = true
      ∧ s.ret.shocks.any (fun r => r.isOpen && decide (r.kind = .dropout)) = false := by decide +kernel

theorem test_witness_ResetSetsVolatileState :
    let blank := unpowered { Retained.setUp with marker := false }
    let w : ResetKind → State := fun kind => { blank with phase := .inReset kind, resetPin := true }
    (blank.phase = .unpowered ∧ blank.resetPin = false)
      ∧ ∀ kind ∈ [ResetKind.warm, .powerOn], (w kind).phase = .inReset kind ∧ (w kind).resetPin = true := by decide +kernel

theorem test_witness_ResetPrefillsTheWindow :
    let s := unpowered { Retained.setUp with settings := { Settings.defaults with window := 32 } }
    let w : State := { s with phase := .inReset .warm, resetPin := true }
    s.phase = .unpowered ∧ s.resetPin = false ∧ s.ret.settings.wf = true ∧ s.ret.marker = true
      ∧ w.phase = .inReset .warm ∧ w.resetPin = true := by decide +kernel

theorem test_witness_SetSettingStoresTheValue :
    let window := frame 0x01 1 [1, 0, 0, 0, 8]
    let limit := frame 0x01 1 [5, 0xFF, 0xFF, 0xFF, 0xFF]
    State.reset.phase = .running
      ∧ ((State.reset.carrying window).Carries window .setSetting ∧ SettingId.ofId (place window 4).toNat = some .window
        ∧ (8 : Int) ≠ State.reset.ret.settings.window ∧ argInt32 window 5 = 8)
      ∧ ((State.reset.carrying limit).Carries limit .setSetting ∧ SettingId.ofId (place limit 4).toNat = some .impactLevel
        ∧ SettingId.impactLevel ∉ [.window, .holdLimit, .capacity, .reserve, .critMv] ∧ argInt32 limit 5 = -1) := by decide +kernel

theorem test_witness_ModifyAttentionMasksTheEnable :
    let f := frame 0x02 1 [0xFF, 0x80]
    (State.reset.carrying f).phase = .running ∧ (State.reset.carrying f).Carries f .modifyAttention := by decide +kernel

theorem test_witness_SetStampTakesTheValue :
    let f := frame 0x03 1 [0xFF, 0xFF, 0xFF, 0xFF]
    (State.reset.carrying f).phase = .running ∧ (State.reset.carrying f).Carries f .setStamp := by decide +kernel

theorem test_witness_ChargeCommandsSetQ :
    let f := frame 0x04 1 [0x00, 0x00, 0x17, 0x71]
    let g := frame 0x05 1 []
    let low := frame 0x04 1 [0x00, 0x00, 0x01, 0x2B]
    State.reset.phase = .running ∧ State.reset.ret.settings.wf = true
      ∧ (State.reset.carrying f).Carries f .setCharge ∧ argInt32 f 4 = 6001
      ∧ (State.reset.carrying low).Carries low .setCharge ∧ argInt32 low 4 = 299
      ∧ (after .setCharge (State.reset.carrying low)).causes = 8
      ∧ (State.reset.carrying g).Carries g .markFull := by decide +kernel

theorem test_witness_ClearCommandsRemoveWhatTheyName :
    let f := frame 0x07 1 [0xFF, 0xFF, 0xFF, 0xFF]
    let g := frame 0x09 1 []
    let all_ := frame 0x06 1 [2]
    let one := frame 0x06 1 [1, 3, 0x07, 0xFF, 0xFF]
    let key : SuspectKey := ⟨.m3, 2047, none⟩
    State.reset.phase = .running ∧ (State.reset.carrying f).Carries f .clearShockLog
      ∧ (State.reset.carrying g).Carries g .clearCounters
      ∧ ((State.reset.carrying all_).Carries all_ .releaseSuspect ∧ frameSelector all_ = some .all)
      ∧ ((State.reset.carrying one).Carries one .releaseSuspect ∧ frameSelector one = some (.one key)
        ∧ (suspect .m3 2047 none .torn).key = key ∧ ∀ e ∈ State.reset.ret.suspects, e.key ≠ key) := by decide +kernel

theorem test_witness_ReleaseHoldsForcesTheHeldSlot :
    let f := frame 0x08 1 []
    let s := ((({ State.reset with releaseQueue := [.m3, .m1] } : State).slot .m3 .erase .held .waiting 0).slot .m1 .program
      .held .releaseQueued 0).queues { module := .m1, kind := .release, cause := some .settled } |>.carrying f
    (State.reset.carrying f).releaseQueue = [] ∧ s.phase = .running ∧ s.Carries f .releaseHolds
      ∧ (after .releaseHolds s).svc.processing = some (.frame f (some { result := .accepted, applied := 2 }))
      ∧ (after .releaseHolds s).arb.queue.map Insert.module = [.m1, .m3] := by decide +kernel

theorem test_witness_RestoreDefaultsStoresTheDefaults :
    let f := frame 0x0A 1 []
    let s := State.reset.carrying f
    let few : State := { s with ret := { s.ret with settings := { Settings.defaults with reserve := 5000, capacity := 5000 } } }
    s.phase = .running ∧ s.Carries f .restoreDefaults ∧ s.releaseQueue = [] ∧ s.gauge.q ≤ 21600000000
      ∧ few.Carries f .restoreDefaults ∧ few.settingsStored Settings.defaults ≠ few := by decide +kernel

theorem test_witness_ProcessingEndGivesTheAnswer :
    let bad := frame 0x0B 1 []
    let busy : Processing → State := fun p => { State.reset with svc := { Service.initial with processing := some p } }
    State.reset.phase = .running
      ∧ (busy (.frame bad (some (accepted 1)))).svc.processing = some (.frame bad (some (accepted 1)))
      ∧ (busy (.frame bad none)).svc.processing = some (.frame bad none) ∧ checkFrame bad = .error .unknown
      ∧ (busy (.report 7)).svc.processing = some (.report 7) := by decide +kernel

/-- Frames at the bounds of the four checks of R165: a marker from column 1, a check byte changed, codes 0 and 0x0B, the ids 0, 1, 23
and 24 of SET SETTING, and the selectors and key bounds of RELEASE SUSPECT (R172). -/
theorem test_witness_FrameChecks :
    checkFrame (0xFF :: frame 0x05 1 []) = .error .malformed
      ∧ checkFrame ((frame 0x05 1 []).set 17 0) = .error .malformed
      ∧ checkFrame (frame 0x00 1 []) = .error .unknown ∧ checkFrame (frame 0x0B 1 []) = .error .unknown
      ∧ [0, 1, 23, 24].map (fun id => checkFrame (frame 0x01 1 [id]))
        = [.error .malformed, .ok .setSetting, .ok .setSetting, .error .malformed]
      ∧ [[0], [2], [3], [1, 3, 0x07, 0xFF, 127], [1, 3, 0x07, 0xFF, 128], [1, 3, 0x07, 0xFF, 255], [1, 4, 0, 0, 0],
          [1, 0, 0x08, 0, 0]].map (fun args => checkFrame (frame 0x06 1 args))
        = [.error .malformed, .ok .releaseSuspect, .error .malformed, .ok .releaseSuspect, .error .malformed,
          .ok .releaseSuspect, .error .malformed, .error .malformed] := by decide +kernel

theorem test_witness_FrameCloseBeginsProcessing :
    let q := seqOf .program .m0 (pageCycles 0 2047 0) .svcFrame
    let f : FrameBuf := ⟨frame 0x0A 1 [], 4128⟩
    let s : State := { State.reset.opened q with svc := { Service.initial with frame := some f } }
    s.phase = .running ∧ s.InSequence q ∧ q.kind = .program ∧ q.handling = .svcFrame ∧ q.closeTaken = false
      ∧ s.svc.frame = some f := by decide +kernel

theorem test_witness_ReportPageTakesItsSnapshot :
    (∀ p ∈ [(1 : BitVec 7), 2, 3, 4, 5, 6, 7],
      let q := seqOf .read .m0 (pageCycles 0 2047 p.toNat) (.svcReport p 0)
      let s := askPage State.reset p
      s.phase = .running ∧ s.InSequence q ∧ q.kind = .read ∧ q.handling = .svcReport p 0 ∧ q.closeTaken = false)
      ∧ State.reset.svc.answer = none
      ∧ (let s : State := { State.reset with
          ret := { Retained.setUp with shocks := [shock 1], suspects := [suspect .m3 2047 none .torn] }
          svc := { Service.initial with answer := some ⟨0x21, 0x03, .accepted, some 4294967295⟩ } }
        s.ret.shocks[0]? = some (shock 1) ∧ s.ret.suspects[0]? = some (suspect .m3 2047 none .torn)
          ∧ (reportContent s 1).1 = [0xA7, 0x3C, 0x01, 0x21, 0x03, 0x00, 0x01, 0x7F, 0xFF, 0xFF, 0xFF, 0x00, 0x00]
          ∧ s.releaseQueue.length ≤ 4 ∧ s.arb.queue.length ≤ 4) := by decide +kernel

end Sys2Proof.Tests
end

section
/-! PROOFS. The motion front end: calibration and magnitude of a sample (R43 to R52), and the refill of a reset (R54). -/

namespace Sys2Proof.Machine

/-! ### Sensor words and their range (R43, R46) -/

/-- The value of a sensor word from its two bytes: the word less 65536 where the sign bit is set. -/
theorem axisWord_eq (high low : Byte) :
    axisWord high low =
      (if high.toNat < 128 then high.toNat * 256 + low.toNat else high.toNat * 256 + low.toNat - 65536 : Int) := by
  have hlow := low.isLt
  have word : (high ++ low : BitVec 16).toNat = high.toNat * 256 + low.toNat := append_toNat high low
  rw [axisWord, BitVec.toInt_eq_toNat_cond, word]
  split <;> split <;> omega

theorem replyFresh_iff (r : SensorReply) :
    replyFresh r = true ↔
      r.status ≠ 0xFF ∧ (-2048 ≤ replyX r ∧ replyX r ≤ 2047) ∧ (-2048 ≤ replyY r ∧ replyY r ≤ 2047)
        ∧ (-2048 ≤ replyZ r ∧ replyZ r ≤ 2047) ∧ r.status.getLsbD 7 = true := by
  simp only [replyFresh, replyNewData, Bool.and_eq_true, decide_eq_true_eq, and_assoc]

/-! ### Calibration (R49, R50) -/

/-- The quotient of R49 rounds down, as the floor does. -/
theorem axisValue_eq_fdiv (raw gain offset : Int) :
    axisValue raw gain offset = Int.fdiv (raw * gain + 512) 1024 + offset := by
  rw [axisValue, Int.fdiv_eq_ediv_of_nonneg _ (by decide)]

theorem correctAxis_eq (raw gain offset : Int) :
    correctAxis raw gain offset = max (-2048) (min 2047 (axisValue raw gain offset)) :=
  clampInt_eq (by decide)

/-- The clamp of R49 bounds every corrected value. -/
theorem correctAxis_mem (raw gain offset : Int) :
    -2048 ≤ correctAxis raw gain offset ∧ correctAxis raw gain offset ≤ 2047 :=
  clampInt_mem (by decide)

theorem axisSaturated_iff (raw gain offset : Int) :
    axisSaturated raw gain offset = true ↔
      raw = -2048 ∨ raw = 2047 ∨ ¬(-2048 ≤ axisValue raw gain offset ∧ axisValue raw gain offset ≤ 2047) := by
  simp only [axisSaturated, Bool.or_eq_true, decide_eq_true_eq, not_and_or, not_le, or_assoc]

theorem replySaturated_iff (t : Settings) (r : SensorReply) :
    replySaturated t r = true ↔
      axisSaturated (replyX r) t.accGainX t.accOffsetX = true ∨ axisSaturated (replyY r) t.accGainY t.accOffsetY = true
        ∨ axisSaturated (replyZ r) t.accGainZ t.accOffsetZ = true := by
  simp only [replySaturated, Bool.or_eq_true, or_assoc]

/-! ### The magnitude (R52) -/

/-- A corrected value is at most 2048 in magnitude, and only −2048 reaches it. -/
theorem natAbs_le_of_clamped {v : Int} (h : -2048 ≤ v ∧ v ≤ 2047) :
    v.natAbs ≤ 2048 ∧ (v.natAbs = 2048 ↔ v = -2048) := by
  omega

/-- Three magnitudes of at most 2048 sum to at most 6144, and to 6144 only where each is 2048. -/
theorem l1Of_le_of_clamped {x y z : Int} (hx : -2048 ≤ x ∧ x ≤ 2047) (hy : -2048 ≤ y ∧ y ≤ 2047)
    (hz : -2048 ≤ z ∧ z ≤ 2047) : l1Of x y z ≤ 6144 ∧ (l1Of x y z = 6144 ↔ x = -2048 ∧ y = -2048 ∧ z = -2048) := by
  have ⟨x_le, x_max⟩ := natAbs_le_of_clamped hx
  have ⟨y_le, y_max⟩ := natAbs_le_of_clamped hy
  have ⟨z_le, z_max⟩ := natAbs_le_of_clamped hz
  rw [l1Of, ← x_max, ← y_max, ← z_max]
  omega

/-- Settles O43: the clamp of each axis bounds its share of the sum, and the rest is each definition's own equation. -/
theorem magnitudeLiesInItsRange : Obligations.MagnitudeLiesInItsRange := by
  intro t r f
  have hx := correctAxis_mem (replyX r) t.accGainX t.accOffsetX
  have hy := correctAxis_mem (replyY r) t.accGainY t.accOffsetY
  have hz := correctAxis_mem (replyZ r) t.accGainZ t.accOffsetZ
  obtain ⟨l1_le, l1_max⟩ := l1Of_le_of_clamped hx hy hz
  refine ⟨rfl, (natAbs_le_of_clamped hx).1, (natAbs_le_of_clamped hy).1, (natAbs_le_of_clamped hz).1, l1_le, l1_max,
    rfl, rfl, ?_⟩
  simp only [← axisWord_eq, ← axisValue_eq_fdiv, ← axisSaturated_iff, ← correctAxis_eq]
  exact ⟨replyFresh_iff r, rfl, rfl, rfl, replySaturated_iff t r, rfl, rfl⟩

/-! ### The memory a reset serves from (R132, R141) -/

/-- Closing a slot that was found live touches its record and the suspect list (R133, R134). -/
theorem reconcileSlot_frame (s : State) (k : ModuleId) : Frame touchSlots s (s.reconcileSlot k) := by
  unfold State.reconcileSlot
  refine touchSlots_trans ?_ (touchList_slots (handRequest_frame _ _ _))
  rfl

/-- Reconciliation writes the slots, the suspect list and the shock log, all within the monitor's frame (R133 to R137). -/
theorem reconcile_frame (s : State) (interrupted : Bool) : Frame touchMonitor s (s.reconcile interrupted) := by
  have closed (u : State) (l : List ModuleId) : Frame touchMonitor u (l.foldl State.reconcileSlot u) :=
    touchSlots_monitor (touchSlots_foldl reconcileSlot_frame l u)
  unfold State.reconcile
  split
  · rfl
  · split
    · exact closed s _
    · exact touchMonitor_trans (touchLog_monitor (createShock_frame s _ _))
        (touchMonitor_trans (closed _ _) (touchSlots_monitor (changeShock_frame _ _ _)))

/-- A reset keeps the settings of the memory as step 4 leaves it. -/
theorem State.runReset_settings (s : State) (kind : ResetKind) (inp : ResetInputs) :
    (s.runReset kind inp).ret.settings = (kind.readMemory s.ret).2.settings :=
  (reconcile_frame _ _).reads (fun t : State => t.ret.settings) fun _ _ => rfl

/-- The front end after a reset is the initial one, its window sized by the memory served from (R54). -/
theorem State.runReset_fe (s : State) (kind : ResetKind) (inp : ResetInputs) :
    (s.runReset kind inp).fe = FrontEnd.initial (s.runReset kind inp).ret.settings.window.toNat := rfl

/-- Memory that holds its format marker is served from as it stands. -/
theorem ResetKind.readMemory_of_marker (kind : ResetKind) {m : Retained} (h : m.marker = true) :
    kind.readMemory m = (kind, m) := if_pos h

/-- The memory served from has its settings in range: its own, or the defaults of a set-up (R141). -/
theorem ResetKind.readMemory_wf (kind : ResetKind) {m : Retained} (h : m.settings.wf = true) :
    (kind.readMemory m).2.settings.wf = true := by
  unfold ResetKind.readMemory
  split
  · exact h
  · exact Settings.defaults_wf

/-- Both events that end a reset run its steps 3 to 9 on a state with the same retained memory (R132). -/
theorem exec_reset_runs {s : State} {inp : ResetInputs} {c : Instr}
    (h : c = .powerOn inp ∧ s.phase = .unpowered ∧ s.resetPin = false
      ∨ c = .resetRelease inp ∧ (∃ kind, s.phase = .inReset kind) ∧ s.resetPin = true) :
    ∃ (u : State) (kind : ResetKind), exec c s = .next (u.runReset kind inp) ∧ u.ret = s.ret := by
  rcases h with ⟨rfl, hphase, hpin⟩ | ⟨rfl, ⟨kind, hphase⟩, hpin⟩
  · refine ⟨s.begin, .powerOn, ?_, rfl⟩
    simp [exec, execPowerOn, State.powerOn, hphase, hpin]
  · refine ⟨{ s.begin with resetPin := false }, kind, ?_, rfl⟩
    simp [exec, execResetRelease, State.releaseReset, hphase, hpin]

/-! ### The refill of a reset (R54) -/

/-- A window of 128 in every place has the average 128, having a place. -/
theorem FrontEnd.initial_average {n : Nat} (h : 0 < n) : (FrontEnd.initial n).average = 128 := by
  simp [FrontEnd.average, FrontEnd.initial, Nat.mul_div_cancel _ h]

/-- Settles O51: both events run the reset, which ends in the initial front end with the WINDOW of the memory it serves from. -/
theorem resetPrefillsTheWindow : Obligations.ResetPrefillsTheWindow := by
  intro s inp c h
  obtain ⟨u, kind, hexec, hret⟩ := exec_reset_runs h
  have hset := State.runReset_settings u kind inp
  rw [hret] at hset
  refine ⟨_, hexec, rfl, rfl, fun hwf => ?_, rfl, rfl, rfl, rfl, rfl, fun hmarker => ?_⟩
  · have hpos := ((Settings.wf_iff _).1 (kind.readMemory_wf hwf)).window_pos
    rw [State.runReset_fe, hset]
    exact FrontEnd.initial_average (by omega)
  · rw [hset, kind.readMemory_of_marker hmarker]

end Sys2Proof.Machine
end

section
/-! PROOFS. What a command can do to the part, said once: the registers it leaves alone, the books it writes (insert queue, counters,
suspect list, shock log) and the vitals it moves (settings, both windows, Q), each by the elementary changes the model makes. -/

namespace Sys2Proof.Machine

/-! ### The books and their elementary changes -/

/-- The insert queue, the page 7 counters, the suspect list and the shock log, apart from the state that holds them. -/
structure Books where
  queue : List Insert
  counters : Counters
  suspects : List Suspect
  overflow : Nat
  shocks : List ShockRec
  epoch : Nat
  overwritten : Nat

/-- The books of a state. -/
def State.books (s : State) : Books :=
  ⟨s.arb.queue, s.counters, s.ret.suspects, s.ret.overflow, s.ret.shocks, s.ret.epoch, s.ret.overwritten⟩

/-- One elementary change of the books. -/
inductive Books.Change : Books → Books → Prop
  | request (b : Books) (e : Insert) : Change b { b with queue := queueRequest b.queue e }
  | dequeue (b : Books) {q : List Insert} (h : q.Sublist b.queue) : Change b { b with queue := q }
  | count (b : Books) (i : CounterId) : Change b { b with counters := b.counters.set i (grow16 (b.counters.get i)) }
  | clearCounters (b : Books) : Change b { b with counters := Counters.zero }
  | hand (b : Books) (req : Suspect) :
    Change b
      { b with
        suspects := (addSuspect b.suspects b.overflow req).1, overflow := (addSuspect b.suspects b.overflow req).2.1 }
  | replace (b : Books) (e : Suspect) : Change b { b with suspects := replaceSuspect b.suspects e }
  | remove (b : Books) (p : Suspect → Bool) : Change b { b with suspects := b.suspects.filter p }
  | clearSuspects (b : Books) : Change b { b with suspects := [], overflow := 0 }
  | create (s : State) (r : ShockRec) (raises : Bool) : Change s.books (s.createShock r raises).1.books
  | rewrite (b : Books) {f : ShockRec → ShockRec} (hf : ∀ r, (f r).number = r.number) :
    Change b { b with shocks := b.shocks.map f }
  | clearShocks (b : Books) (p : ShockRec → Bool) : Change b { b with shocks := b.shocks.filter p, overwritten := 0 }
  | setUp (b : Books) :
    Change b { b with suspects := [], overflow := 0, shocks := [], epoch := 0, overwritten := 0 }

/-- Elementary changes of the books in a row. -/
abbrev Books.Run : Books → Books → Prop := Relation.ReflTransGen Books.Change

/-- What every elementary change keeps, a run keeps. -/
theorem Books.Run.keeps {P : Books → Prop} (hP : ∀ b b', Books.Change b b' → P b → P b') {b b' : Books}
    (h : Books.Run b b') (hb : P b) : P b' := by
  induction h with
  | refl => exact hb
  | tail _ hc ih => exact hP _ _ hc ih

/-! ### The vitals and their elementary changes -/

/-- The settings, both windows with their sums, and Q, apart from the state that holds them. -/
structure Vitals where
  settings : Settings
  window : List Nat
  sum : Nat
  vWindow : List Nat
  vSum : Nat
  q : Nat

/-- The vitals of a state. -/
def State.vitals (s : State) : Vitals :=
  ⟨s.ret.settings, s.fe.window, s.fe.sum, s.gauge.vWindow, s.gauge.vSum, s.gauge.q⟩

/-- One elementary change of the vitals. -/
inductive Vitals.Change : Vitals → Vitals → Prop
  | store (v : Vitals) (new : Settings) (hwf : v.settings.wf = true → new.wf = true) (average : Nat) :
    Change v
      { v with
        settings := new
        window := if v.settings.window = new.window then v.window else List.replicate new.window.toNat average
        sum := if v.settings.window = new.window then v.sum else average * new.window.toNat
        q := if v.settings.capacity = new.capacity then v.q else min v.q new.full }
  | refill (v : Vitals) (x : Nat) :
    Change v { v with window := List.replicate v.window.length x, sum := x * v.window.length }
  | enter (v : Vitals) (x : Nat) :
    Change v { v with window := v.window.tail ++ [x], sum := v.sum - v.window.headD 0 + x }
  | enterVoltage (v : Vitals) (x : Nat) :
    Change v { v with vWindow := v.vWindow.tail ++ [x], vSum := v.vSum - v.vWindow.headD 0 + x }
  | charge (v : Vitals) {q : Nat} (h : q ≤ v.settings.full) : Change v { v with q := q }

/-- Elementary changes of the vitals in a row. -/
abbrev Vitals.Run : Vitals → Vitals → Prop := Relation.ReflTransGen Vitals.Change

/-- What every elementary change keeps, a run keeps. -/
theorem Vitals.Run.keeps {P : Vitals → Prop} (hP : ∀ v v', Vitals.Change v v' → P v → P v') {v v' : Vitals}
    (h : Vitals.Run v v') (hv : P v) : P v' := by
  induction h with
  | refl => exact hv
  | tail _ hc ih => exact hP _ _ hc ih

/-! ### Moves -/

/-- `t` is reached from `s` with the phase, the pins, the straps, the free values and the queue of commands left alone, and the books
and the vitals moved by their elementary changes. -/
structure Moves (s t : State) : Prop where
  phase : t.phase = s.phase
  resetPin : t.resetPin = s.resetPin
  ce : t.ce = s.ce
  straps : t.straps = s.straps
  freeIndex : t.freeIndex = s.freeIndex
  pending : t.pending = s.pending
  books : Books.Run s.books t.books
  vitals : Vitals.Run s.vitals t.vitals

section

variable {s t u : State}

theorem Moves.refl (s : State) : Moves s s := ⟨rfl, rfl, rfl, rfl, rfl, rfl, .refl, .refl⟩

theorem Moves.trans (h : Moves s t) (h' : Moves t u) : Moves s u where
  phase := h'.phase.trans h.phase
  resetPin := h'.resetPin.trans h.resetPin
  ce := h'.ce.trans h.ce
  straps := h'.straps.trans h.straps
  freeIndex := h'.freeIndex.trans h.freeIndex
  pending := h'.pending.trans h.pending
  books := h.books.trans h'.books
  vitals := h.vitals.trans h'.vitals

/-- The values a move leaves alone. -/
def State.fixed (s : State) : Phase × Bool × PerModule Bool × Straps × Nat × List Instr :=
  (s.phase, s.resetPin, s.ce, s.straps, s.freeIndex, s.pending)

theorem Moves.of_runs (hf : t.fixed = s.fixed) (hb : Books.Run s.books t.books) (hv : Vitals.Run s.vitals t.vitals) :
    Moves s t := by
  simp only [State.fixed, Prod.mk.injEq] at hf
  obtain ⟨h1, h2, h3, h4, h5, h6⟩ := hf
  exact ⟨h1, h2, h3, h4, h5, h6, hb, hv⟩

/-- A change of nothing that is watched is a move. -/
theorem Moves.of_eq (h : (t.fixed, t.books, t.vitals) = (s.fixed, s.books, s.vitals)) : Moves s t := by
  simp only [Prod.mk.injEq] at h
  obtain ⟨fixed, books, vitals⟩ := h
  exact .of_runs fixed (books ▸ .refl) (vitals ▸ .refl)

/-- An elementary change of the books alone is a move. -/
theorem Moves.of_book (hb : Books.Change s.books t.books) (hf : t.fixed = s.fixed) (hv : t.vitals = s.vitals) : Moves s t :=
  .of_runs hf (.single hb) (hv ▸ .refl)

/-- An elementary change of the vitals alone is a move. -/
theorem Moves.of_vital (hv : Vitals.Change s.vitals t.vitals) (hf : t.fixed = s.fixed) (hb : t.books = s.books) :
    Moves s t := .of_runs hf (hb ▸ .refl) (.single hv)

/-- Moves in a row are one move. -/
theorem Moves.foldl {α : Type} {op : State → α → State} (hop : ∀ a x, Moves a (op a x)) (l : List α) (a : State) :
    Moves a (l.foldl op a) := by
  induction l generalizing a with
  | nil => exact .refl a
  | cons x l ih => exact (hop a x).trans (ih (op a x))

/-- A move on a condition. -/
theorem Moves.ite {c : Prop} [Decidable c] (h : Moves s t) (h' : Moves s u) : Moves s (if c then t else u) := by
  split <;> assumption

end

variable (s : State) (k : ModuleId)

/-! ### Elementary operations -/

theorem count_moves (i : CounterId) : Moves s (s.count i) := .of_book (.count _ i) rfl rfl

theorem raise_moves (c : AttnCause) : Moves s (s.raise c) := .of_eq rfl

theorem request_moves (kind : InsertKind) (cause : Option ReleaseCause) : Moves s (s.request k kind cause) :=
  .of_book (.request _ _) rfl rfl

theorem withdraw_moves : Moves s (s.withdraw k) := .of_book (.dequeue _ List.filter_sublist) rfl rfl

theorem onRelay_moves (f : Relay → Relay) : Moves s (s.onRelay f) := .of_eq rfl
theorem onSvc_moves (f : Service → Service) : Moves s (s.onSvc f) := .of_eq rfl
theorem onTag_moves (f : TagEngine → TagEngine) : Moves s (s.onTag f) := .of_eq rfl
theorem onMon_moves (f : Monitor → Monitor) : Moves s (s.onMon f) := .of_eq rfl
theorem onClock_moves (f : StampClock → StampClock) : Moves s (s.onClock f) := .of_eq rfl
theorem onPorts_moves (f : Ports → Ports) : Moves s (s.onPorts f) := .of_eq rfl
theorem setSlotRec_moves (r : SlotRec) : Moves s (s.setSlotRec k r) := .of_eq rfl
theorem setSlotLive_moves (l : SlotLive) : Moves s (s.setSlotLive k l) := .of_eq rfl
theorem setReadyFail_moves : Moves s (s.setReadyFail k) := .of_eq rfl
theorem idleZero_moves : Moves s s.idleZero := .of_eq rfl
theorem forward_moves (cs : List ModuleCycle) : Moves s (s.forward cs) := .of_eq rfl
theorem setSeq_moves (q : Option Seq) : Moves s (s.setSeq q) := .of_eq rfl
theorem runTo_moves (t : Nat) : Moves s (s.runTo t) := .of_eq rfl
theorem insertEnds_moves : Moves s s.insertEnds := .of_eq rfl
theorem answerByte_moves (b : Byte) : Moves s (s.answerByte b) := .of_eq rfl

/-! ### The suspect list -/

theorem handRequest_moves (req : Suspect) (raises : Bool) : Moves s (s.handRequest req raises) := by
  have hand : Moves s (s.onRet fun m =>
      { m with
        suspects := (addSuspect s.ret.suspects s.ret.overflow req).1
        overflow := (addSuspect s.ret.suspects s.ret.overflow req).2.1 }) := .of_book (.hand _ req) rfl rfl
  exact (hand.trans (.ite (raise_moves _ _) (.refl _))).trans (.ite (raise_moves _ _) (.refl _))

theorem damage_moves (e fields : Suspect) : Moves s (s.damage e fields) := by
  have replaced : Moves s (s.onRet fun m =>
      { m with suspects := replaceSuspect m.suspects { fields with verdict := .damaged } }) := .of_book (.replace _ _) rfl rfl
  unfold State.damage
  split
  · exact replaced.trans (raise_moves _ _)
  · exact replaced

theorem removeSuspect_moves (key : SuspectKey) : Moves s (s.removeSuspect key) := .of_book (.remove _ _) rfl rfl

theorem removeBlock_moves (block : BitVec 11) : Moves s (s.removeBlock k block) := .of_book (.remove _ _) rfl rfl

theorem readReport_moves (o : ReadOutcome) (key : SuspectKey) (ws : Option Nat) : Moves s (s.readReport o key ws) := by
  unfold State.readReport
  cases findSuspect s.ret.suspects key with
  | some e =>
    cases o with
    | matched => exact .ite (removeSuspect_moves s key) (.refl s)
    | mismatch => exact damage_moves s _ _
    | misplaced => exact damage_moves s _ _
    | untagged => exact damage_moves s _ _
    | empty => exact .ite (.refl s) (damage_moves s _ _)
    | skipped => exact .refl s
  | none =>
    cases o with
    | mismatch => exact handRequest_moves s _ _
    | misplaced => exact handRequest_moves s _ _
    | matched => exact .refl s
    | untagged => exact .refl s
    | empty => exact .refl s
    | skipped => exact .refl s

theorem releaseSuspects_moves (sel : SuspectSelector) : Moves s (s.releaseSuspects sel).1 := by
  unfold State.releaseSuspects
  split
  · split
    · exact removeSuspect_moves s _
    · exact .refl s
  · exact .of_book (.clearSuspects _) rfl rfl

/-! ### The shock log -/

theorem createShock_moves (r : ShockRec) (raises : Bool) : Moves s (s.createShock r raises).1 := by
  have h := createShock_frame s r raises
  exact .of_book (.create s r raises) (h.reads State.fixed fun _ _ => rfl) (h.reads State.vitals fun _ _ => rfl)

theorem changeShock_moves (n : Nat) {f : ShockRec → ShockRec} (hf : ∀ r, (f r).number = r.number) :
    Moves s (s.changeShock n f) :=
  .of_book (.rewrite _ fun r => by split <;> simp [hf]) rfl rfl

theorem changeOpenRec_moves {f : ShockRec → ShockRec} (hf : ∀ r, (f r).number = r.number) :
    Moves s (s.changeOpenRec f) := by
  unfold State.changeOpenRec
  split
  · exact changeShock_moves s _ hf
  · exact .refl s

theorem closeOpenRec_moves : Moves s s.closeOpenRec :=
  .trans (changeOpenRec_moves s (by intro _; rfl)) (onMon_moves _ _)

theorem clearShocks_moves (n : Nat) : Moves s (s.clearShocks n).1 := .of_book (.clearShocks _ _) rfl rfl

theorem openRecord_moves (kind : ShockKind) (duration strikes : Nat) : Moves s (s.openRecord kind duration strikes) := by
  unfold State.openRecord
  exact .trans (createShock_moves s _ true) (onMon_moves _ _)

/-! ### The slots -/

theorem countHeld_moves : Moves s (s.countHeld k) :=
  .ite (.refl s) (.trans (changeOpenRec_moves s (by intro _; rfl)) (onMon_moves _ _))

theorem countExposed_moves : Moves s (s.countExposed k) :=
  .ite (.refl s) (.trans (changeOpenRec_moves s (by intro _; rfl)) (onMon_moves _ _))

theorem markExposed_moves (offset : Nat) : Moves s (s.markExposed k offset) := by
  unfold State.markExposed
  split
  · exact (setSlotRec_moves s k _).trans (countExposed_moves _ k)
  · exact .refl s

theorem releaseSlot_moves (cause : ReleaseCause) : Moves s (s.releaseSlot k cause) := by
  unfold State.releaseSlot
  dsimp only
  split
  · exact (request_moves s k _ _).trans (setSlotLive_moves _ k _)
  · exact request_moves s k _ _
  · exact .refl s

theorem breakHold_moves : Moves s (s.breakHold k) :=
  ((releaseSlot_moves s k _).trans (count_moves _ _)).trans (raise_moves _ _)

theorem judgeHolds_moves : Moves s s.judgeHolds :=
  .foldl (fun a x => .ite (breakHold_moves a x) (.refl a)) _ s

theorem forceAll_moves : Moves s s.forceAll.1 := by
  have forced (l : List ModuleId) (p : State × Nat) :
      Moves p.1 (l.foldl (fun p k => let r := p.1.forceSlot k; (r.1, p.2 + r.2)) p).1 := by
    induction l generalizing p with
    | nil => exact .refl _
    | cons x l ih => exact (releaseSlot_moves p.1 x .forced).trans (ih (p.1.forceSlot x |>.1, p.2 + (p.1.forceSlot x).2))
  exact forced _ (s, 0)

theorem closeSlot_moves (o : SlotOutcome) : Moves s (s.closeSlot k o) := by
  have written : Moves s
      (((s.setSlotRec k { s.slotRec k with state := .free, last := some o, busyMs := (s.slotLive k).busyMs s.ms }).setSlotLive k
        { s.slotLive k with state := .free, step := none, issueMs := none, timerFrom := none, keptReturn := false }).onReleaseQueue
          fun q => q.filter fun m => decide (m ≠ k)) := .of_eq rfl
  unfold State.closeSlot
  dsimp only
  cases closeReason o (s.slotRec k).exposure.isSome with
  | some reason =>
    have handed := written.trans (handRequest_moves _ ((s.slotRec k).entry k reason s.clock.stamp) true)
    exact .ite (handed.trans (removeBlock_moves _ k _)) handed
  | none => exact .ite (written.trans (removeBlock_moves _ k _)) written

theorem criticalSlot_moves : Moves s (s.criticalSlot k) := by
  unfold State.criticalSlot
  dsimp only
  refine .ite ?_ (.refl s)
  refine .trans (.trans (.ite ?_ (releaseSlot_moves s k _)) (count_moves _ _)) (raise_moves _ _)
  exact ((((withdraw_moves s k).trans (setSlotRec_moves _ k _)).trans (closeSlot_moves _ k _)).trans
    (setReadyFail_moves _ k)).trans (count_moves _ _)

theorem criticalEntry_moves : Moves s s.criticalEntry := .foldl criticalSlot_moves _ s

theorem suspendSlot_moves : Moves s (s.suspendSlot k) := by
  unfold State.suspendSlot
  dsimp only
  refine .ite ?_ (.refl s)
  split
  · exact (request_moves s k _ _).trans (setSlotLive_moves _ k _)
  · exact (request_moves s k _ _).trans (setSlotLive_moves _ k _)
  · exact (request_moves s k _ _).trans (setSlotLive_moves _ k _)
  · exact .refl s

theorem resumeSlot_moves : Moves s (s.resumeSlot k) := by
  unfold State.resumeSlot
  dsimp only
  split
  · exact (request_moves s k _ _).trans (setSlotLive_moves _ k _)
  · exact .refl s

theorem exposeSlot_moves : Moves s (s.exposeSlot k) := by
  unfold State.exposeSlot
  dsimp only
  split
  · exact markExposed_moves s k _
  · exact markExposed_moves s k _
  · exact markExposed_moves s k _
  · exact .refl s

theorem withdrawRelease_moves : Moves s (s.withdrawRelease k) :=
  .ite ((withdraw_moves s k).trans (setSlotLive_moves _ k _)) (.refl s)

theorem departureSignals_moves : Moves s s.departureSignals :=
  (((Moves.foldl exposeSlot_moves _ s).trans (.foldl suspendSlot_moves _ _)).trans
    (.foldl withdrawRelease_moves _ _)).trans (judgeHolds_moves _)

theorem resumeAll_moves : Moves s s.resumeAll := .foldl resumeSlot_moves _ s

theorem calmSignals_moves : Moves s s.calmSignals :=
  (Moves.foldl (fun a x => .ite (releaseSlot_moves a x _) (.refl a)) _ s).trans (resumeAll_moves _)

theorem blindSignals_moves : Moves s s.blindSignals :=
  (Moves.foldl (fun a x => .ite (releaseSlot_moves a x _) (.refl a)) _ s).trans (resumeAll_moves _)

theorem takeConfirm_moves (c : Confirm) : Moves s (s.takeConfirm k c) := by
  unfold State.takeConfirm
  dsimp only
  split
  · exact (((setSlotRec_moves s k _).trans (count_moves _ _)).trans (raise_moves _ _)).trans (setReadyFail_moves _ k)
  · exact .of_eq rfl
  · refine .trans (.trans ?_ (count_moves _ _)) (countHeld_moves _ k)
    exact .of_eq rfl

theorem makeStuck_moves : Moves s (s.makeStuck k) :=
  .trans (.trans (.trans (.ite (.refl s) (raise_moves s _)) (onRelay_moves _ _)) (setReadyFail_moves _ k)) (count_moves _ _)

/-! ### The gauge and the settings -/

theorem handLevel_moves (old : Level) : Moves s (s.handLevel old) :=
  .ite (.refl s) (.ite ((raise_moves s _).trans (criticalEntry_moves _)) (raise_moves s _))

/-- A value clamped from 0 up to a number of charge stays at most it. -/
theorem chargeAfter_le (full q : Nat) (quantum : Int) : chargeAfter full q quantum ≤ full := by
  have := (clampInt_mem (lo := 0) (hi := full) (v := q - quantum) (by omega)).2
  unfold chargeAfter
  omega

theorem takeCurrent_moves (raw : Int) : Moves s (s.takeCurrent raw) := by
  refine .trans ?_ (handLevel_moves _ _)
  exact .of_vital (.charge _ (chargeAfter_le _ _ _)) rfl rfl

theorem takeVoltage_moves (mv : Nat) : Moves s (s.takeVoltage mv) := by
  refine .trans ?_ (handLevel_moves _ _)
  exact .of_vital (.enterVoltage _ mv) rfl rfl

theorem putCharge_moves {q : Nat} (h : q ≤ s.ret.settings.full) : Moves s (s.putCharge q) := by
  refine .trans ?_ (handLevel_moves _ _)
  exact .of_vital (.charge _ h) rfl rfl

/-- The gauge after the settings took effect: Q clamped to the new FULL where CAPACITY changed (R115), and two conditions judged. -/
theorem gaugeEffects_gauge (old : Settings) : ∃ chargeLow voltageLow,
    (s.gaugeEffects old).gauge =
      { s.gauge with
        q := if old.capacity = s.ret.settings.capacity then s.gauge.q else min s.gauge.q s.ret.settings.full
        chargeLow := chargeLow
        voltageLow := voltageLow } := by
  rw [State.gaugeEffects_eq, ← State.handLevel_eq]
  exact ⟨_, _, (handLevel_frame _ _).reads (fun t : State => t.gauge) fun _ _ => rfl⟩

theorem storeSettings_gauge (new : Settings) : ∃ chargeLow voltageLow,
    (s.storeSettings new).gauge =
      { s.gauge with
        q := if s.ret.settings.capacity = new.capacity then s.gauge.q else min s.gauge.q new.full
        chargeLow := chargeLow
        voltageLow := voltageLow } := by
  have gauge (u : State) (c : Prop) [Decidable c] : (if c then u.judgeHolds else u).gauge = u.gauge := by
    split <;> [exact (judgeHolds_frame u).reads (fun t : State => t.gauge) fun _ _ => rfl; rfl]
  have settings (u : State) (c : Prop) [Decidable c] :
      (if c then u.judgeHolds else u).ret.settings = u.ret.settings := by
    split <;> [exact (judgeHolds_frame u).reads (fun t : State => t.ret.settings) fun _ _ => rfl; rfl]
  unfold State.storeSettings
  obtain ⟨c, v, h⟩ := gaugeEffects_gauge _ _
  refine ⟨c, v, h.trans ?_⟩
  rw [gauge, settings]
  split <;> rfl

/-- Storing the settings writes the books by its release requests and its level alone. -/
theorem storeSettings_books (new : Settings) : Books.Run s.books (s.storeSettings new).books := by
  have refilled (u : State) (c : Prop) [Decidable c] (f : FrontEnd → FrontEnd) :
      (if c then u.onFe f else u).books = u.books := by split <;> rfl
  have gauged (u : State) (c : Prop) [Decidable c] (f : Gauge → Gauge) :
      (if c then u.onGauge f else u).books = u.books := by split <;> rfl
  have copied (u : State) (c : Prop) [Decidable c] (f : Gauge → Gauge) :
      (if c then (u.onGauge f).writeChargeCopy else u).books = u.books := by split <;> rfl
  have effects (u : State) (old : Settings) : Books.Run u.books (u.gaugeEffects old).books := by
    refine .trans ?_ (handLevel_moves _ _).books
    rw [gauged, gauged, copied]
  have judged (u : State) (c : Prop) [Decidable c] : Books.Run u.books (if c then u.judgeHolds else u).books := by
    split <;> [exact (judgeHolds_moves u).books; exact .refl]
  refine .trans (.trans ?_ (judged _ _)) (effects _ _)
  rw [refilled]
  exact .refl

theorem storeSettings_moves {new : Settings} (hwf : s.ret.settings.wf = true → new.wf = true) :
    Moves s (s.storeSettings new) := by
  have frame := storeSettings_frame s new
  obtain ⟨chargeLow, voltageLow, gauge⟩ := storeSettings_gauge s new
  refine .of_runs (frame.reads State.fixed fun _ _ => rfl) (storeSettings_books s new) (.single ?_)
  have stored := Vitals.Change.store s.vitals new hwf s.fe.average
  have reached : (s.storeSettings new).vitals =
      { s.vitals with
        settings := new
        window := if s.ret.settings.window = new.window then s.fe.window else List.replicate new.window.toNat s.fe.average
        sum := if s.ret.settings.window = new.window then s.fe.sum else s.fe.average * new.window.toNat
        q := if s.ret.settings.capacity = new.capacity then s.gauge.q else min s.gauge.q new.full } := by
    simp only [State.vitals, storeSettings_settings, storeSettings_fe, gauge]
    by_cases h : s.ret.settings.window = new.window <;> simp [h, FrontEnd.refill]
  rw [reached]
  exact stored

/-! ### Doze control and the monitor -/

theorem changeRate_moves (poll current : Nat) : Moves s (s.changeRate poll current) := .of_vital (.refill _ s.fe.average) rfl rfl

theorem wake_moves : Moves s s.wake :=
  .trans (t := (s.onDoze fun d => { d with dozing := false }).idleZero) (.of_eq rfl) (changeRate_moves _ _ _)

theorem fallAsleep_moves : Moves s s.fallAsleep :=
  .trans (t := (s.onDoze fun d => { d with dozing := true }).idleZero) (.of_eq rfl) (.trans (changeRate_moves _ _ _) (.of_eq rfl))

theorem departureWakes_moves : Moves s s.departureWakes := .ite (wake_moves s) (idleZero_moves s)

theorem setMon_moves (st : MonState) (lowRun settle : Nat) : Moves s (s.setMon st lowRun settle) := onMon_moves s _

theorem enterBlind_moves : Moves s s.enterBlind := by
  have blind : Moves s ((s.closeOpenRec.openRecord .blind 0 0).blindSignals.setMon .blind 0 0) :=
    (((closeOpenRec_moves s).trans (openRecord_moves _ _ _ _)).trans (blindSignals_moves _)).trans (setMon_moves _ _ _ _)
  exact .ite (blind.trans (departureWakes_moves _)) blind

theorem takeImpact_number (r : Report) (x : ShockRec) : (x.takeImpact r).number = x.number := rfl

theorem reportCalm_moves (r : Report) : Moves s (s.reportCalm r) := by
  have departs {u : State} (h : Moves s u) (st : MonState) (lowRun settle : Nat) :
      Moves s ((u.setMon st lowRun settle).departureSignals.departureWakes) :=
    ((h.trans (setMon_moves _ _ _ _)).trans (departureSignals_moves _)).trans (departureWakes_moves _)
  unfold State.reportCalm
  dsimp only
  split
  · have struck : Moves s ((s.openRecord .knock 0 0).changeOpenRec fun k => k.takeStrike r) :=
      (openRecord_moves s _ _ _).trans (changeOpenRec_moves _ fun _ => rfl)
    exact departs struck _ _ _
  · split
    · exact .ite (departs (openRecord_moves s _ _ _) _ _ _) (setMon_moves _ _ _ _)
    · exact setMon_moves _ _ _ _

theorem reportFalling_moves (r : Report) : Moves s (s.reportFalling r) := by
  have grown : Moves s (s.changeOpenRec fun k => k.addDuration 1) := changeOpenRec_moves s fun _ => rfl
  refine .ite ?_ (.ite (grown.trans (setMon_moves _ _ _ _)) grown)
  exact .trans (grown.trans (changeOpenRec_moves _ (by intro _; rfl))) (setMon_moves _ _ _ _)

theorem reportStruck_moves (r : Report) : Moves s (s.reportStruck r) :=
  .ite (changeOpenRec_moves s (takeImpact_number r)) (setMon_moves _ _ _ _)

theorem reportSettling_moves (r : Report) : Moves s (s.reportSettling r) := by
  unfold State.reportSettling
  dsimp only
  generalize (if (r.average : Int) < s.ret.settings.fallLevel then min (s.mon.lowRun + 1) 255 else 0) = low
  generalize (if s.ret.settings.restLow ≤ (r.average : Int) ∧ (r.average : Int) ≤ s.ret.settings.restHigh
    then min (s.mon.settle + 1) 4095 else 0) = settle
  refine .ite ?struck (.ite ?falling (.ite ?calm (setMon_moves _ _ _ _)))
  case struck => exact .trans (changeOpenRec_moves s (by intro _; rfl)) (setMon_moves _ _ _ _)
  case falling => exact .trans (changeOpenRec_moves s (by intro _; rfl)) (setMon_moves _ _ _ _)
  case calm => exact ((closeOpenRec_moves s).trans (setMon_moves _ _ _ _)).trans (calmSignals_moves _)

theorem reportBlind_moves (r : Report) : Moves s (s.reportBlind r) := by
  refine .ite ?_ (.refl s)
  exact .trans (.trans (.trans (changeOpenRec_moves s (by intro _; rfl)) (closeOpenRec_moves _)) (setMon_moves _ _ _ _))
    (resumeAll_moves _)

theorem takeReport_moves (r : Report) : Moves s (s.takeReport r) := by
  unfold State.takeReport
  split
  · exact reportBlind_moves s r
  · exact .ite (enterBlind_moves s) (reportCalm_moves s r)
  · exact .ite (enterBlind_moves s) (reportFalling_moves s r)
  · exact .ite (enterBlind_moves s) (reportStruck_moves s r)
  · exact .ite (enterBlind_moves s) (reportSettling_moves s r)

theorem takeReply_moves (r : SensorReply) : Moves s (s.takeReply r) := by
  refine .ite (.trans ?fresh (takeReport_moves _ _)) (.trans (.trans ?stale (count_moves _ _)) (takeReport_moves _ _))
  case fresh =>
    let l1 := (correctedSample s.ret.settings r).l1
    let refilled := s.onFe fun f => if Config.blindRun ≤ f.staleCount then f.refill f.window.length l1 else f
    have first : Moves s refilled := by
      by_cases h : Config.blindRun ≤ s.fe.staleCount
      · refine .of_vital ?_ rfl rfl
        have := Vitals.Change.refill s.vitals l1
        simpa [State.vitals, refilled, h, FrontEnd.refill] using this
      · exact .of_eq (by simp [State.fixed, State.books, State.vitals, refilled, h])
    exact first.trans (.of_vital (.enter refilled.vitals l1) rfl rfl)
  case stale => exact .of_vital (.enter s.vitals s.fe.last.l1) rfl rfl

/-! ### The tag engine -/

theorem settleRead_moves (r : TagRead) (o : ReadOutcome) : Moves s (s.settleRead r o) :=
  .trans (.trans (onTag_moves s _) (readReport_moves _ _ _ _)) (count_moves _ _)

theorem examine_moves (b : Byte) : Moves s (s.examine b) := by
  unfold State.examine
  split
  · exact .refl s
  · exact .ite (.ite (settleRead_moves s _ _) (onTag_moves s _)) (.refl s)

theorem loseOrder_moves : Moves s s.loseOrder := by
  unfold State.loseOrder
  split
  · exact .refl s
  · exact .ite (.refl s) (onTag_moves s _)

theorem readEnds_moves : Moves s s.readEnds := by
  unfold State.readEnds
  split
  · exact .refl s
  · exact .ite (.refl s) (settleRead_moves s _ _)

/-- What the program stream reaches is watched by no move. -/
theorem touchProgram_moves {t : State} (h : Frame touchProgram s t) : Moves s t :=
  .of_eq (h.reads (fun t : State => (t.fixed, t.books, t.vitals)) fun _ _ => rfl)

/-! ### The channel relay -/

theorem countOnce_moves (q : Seq) : Moves s (s.countOnce q) :=
  .ite (.refl s) ((count_moves s _).trans (onRelay_moves _ _))

theorem leaveSequence_moves (q : Seq) : Moves s (s.leaveSequence q) := by
  unfold State.leaveSequence
  split
  case h_1 =>
    split
    · exact (readEnds_moves s).trans (onTag_moves _ _)
    · exact onTag_moves s _
    · exact .refl s
    · exact .refl s
    · exact .refl s
  case h_2 => exact onSvc_moves s _
  case h_3 => exact onSvc_moves s _
  all_goals exact .refl s

theorem endSequence_moves : Moves s s.endSequence := by
  unfold State.endSequence
  split
  · exact .refl s
  · exact ((leaveSequence_moves s _).trans (onRelay_moves _ _)).trans (idleZero_moves _)

theorem cutAddress_moves (q : Seq) : Moves s (s.cutAddress q) := (count_moves s _).trans (setSeq_moves _ _)

theorem unplacedArrives_moves (closes : Option SeqKind) : Moves s (s.unplacedArrives closes) := by
  refine .ite (.refl s) ?_
  split
  · exact .ite (.ite ((cutAddress_moves s _).trans (endSequence_moves _)) (cutAddress_moves s _)) (count_moves s _)
  · exact count_moves s _

theorem endNested_moves : Moves s s.endNested := by
  unfold State.endNested
  split
  · exact .refl s
  · exact (onRelay_moves s _).trans (idleZero_moves _)

theorem strayCycle_moves : Moves s s.strayCycle := .ite (.refl s) ((count_moves s _).trans (onRelay_moves _ _))

theorem endForOpen_moves : Moves s s.endForOpen := by
  unfold State.endForOpen
  refine .trans ?_ (onRelay_moves _ _)
  split
  · exact .ite ((count_moves s _).trans (endSequence_moves _)) (endSequence_moves s)
  · exact .refl s

theorem openCode_moves {f : State → ModuleId → State} (hf : ∀ a k, Moves a (f a k)) : Moves s (s.openCode f) := by
  unfold State.openCode
  split
  · exact .refl s
  · exact (count_moves s _).trans (onRelay_moves _ _)
  · exact (endForOpen_moves s).trans (hf _ _)

theorem openLatched_moves (kind : SeqKind) : Moves s (s.openLatched kind) :=
  openCode_moves s fun a _ => setSeq_moves a _

theorem clearForClass_moves : Moves s (s.clearForClass k) := onRelay_moves s _

theorem refuseSeq_moves (q : Seq) : Moves s (s.refuseSeq q) := .of_eq rfl

theorem serviceSeq_moves (q : Seq) : Moves s (s.serviceSeq q) := by
  unfold State.serviceSeq
  dsimp only
  split
  · exact .ite ((onSvc_moves s _).trans (setSeq_moves _ _)) (refuseSeq_moves s q)
  · exact .ite (setSeq_moves s _) (setSeq_moves s _)
  · exact refuseSeq_moves s q
  · exact refuseSeq_moves s q
  · exact refuseSeq_moves s q

theorem passSeq_moves (q : Seq) : Moves s (s.passSeq q) := by
  have passed : Moves s ((s.forward q.cycles).setSeq (some { q with handling := .passed })) := .of_eq rfl
  unfold State.passSeq
  dsimp only
  split
  · exact passed.trans (onTag_moves _ _)
  · exact passed.trans (onTag_moves _ _)
  · exact passed
  · exact passed
  · exact passed

theorem classify_moves (q : Seq) : Moves s (s.classify q) := by
  have cleared := clearForClass_moves s q.module
  refine .ite (.ite ?_ (.ite ?_ (.ite ?_ ?_))) (setSeq_moves s _)
  · exact (cleared.trans (count_moves _ _)).trans (setSeq_moves _ _)
  · exact cleared.trans (serviceSeq_moves _ q)
  · exact cleared.trans (refuseSeq_moves _ q)
  · exact cleared.trans (passSeq_moves _ q)

theorem takeAddress_moves (b : Byte) : Moves s (s.takeAddress b) := by
  unfold State.takeAddress
  split
  · refine .ite (.ite (.ite (classify_moves s _) ?_) (setSeq_moves s _)) (.refl s)
    exact (count_moves s _).trans (setSeq_moves _ _)
  · exact .refl s

theorem forwardStatus_moves : Moves s (s.forwardStatus k) := by
  unfold State.forwardStatus
  split
  · exact forward_moves s _
  · exact .refl s

theorem openStatus_moves : Moves s (s.openStatus k) := by
  refine .ite ?nested ?opened
  case nested => exact ((endNested_moves s).trans (forwardStatus_moves _ k)).trans (onRelay_moves _ _)
  case opened => exact ((endForOpen_moves s).trans (forwardStatus_moves _ k)).trans (setSeq_moves _ _)

theorem answerStatus_moves (a : StatusAnswer) (b : Byte) : Moves s (s.answerStatus k a b) := by
  cases a with
  | byPart own => exact answerByte_moves s _
  | fromModule => exact (forward_moves s _).trans (answerByte_moves _ _)

theorem resetSlot_moves : Moves s (s.resetSlot k) := by
  unfold State.resetSlot
  split
  · exact .refl s
  · exact closeSlot_moves s k _
  · exact closeSlot_moves s k _
  · exact closeSlot_moves s k _

theorem moduleReset_moves : Moves s (s.moduleReset k) := by
  refine .trans (.ite ?_ (.refl s)) (idleZero_moves _)
  exact ((((clearForClass_moves s k).trans (withdraw_moves _ k)).trans (resetSlot_moves _ k)).trans
    (forward_moves _ _)).trans (onRelay_moves _ _)

theorem discardCode_moves : Moves s (s.discardCode k) :=
  .trans (.trans (.ite (clearForClass_moves s k) (.refl s)) (count_moves _ _)) (idleZero_moves _)

/-! ### Close codes and data cycles -/

theorem confirm_moves (c : Confirm) (close : ChannelCode) : Moves s (s.confirm k c close) := by
  unfold State.confirm
  dsimp only
  split
  · exact (takeConfirm_moves s k c).trans (forward_moves _ _)
  · exact takeConfirm_moves s k c
  · exact takeConfirm_moves s k c

theorem closeProgram_moves (q : Seq) : Moves s (s.closeProgram q) := by
  unfold State.closeProgram
  split
  case h_1 =>
    split
    · exact ((touchProgram_moves s (completeTag_frame s _)).trans (confirm_moves _ _ _ _)).trans (endSequence_moves _)
    · exact endSequence_moves s
  case h_2 => exact ((onSvc_moves s _).trans (setSeq_moves _ _)).trans (endSequence_moves _)
  all_goals exact endSequence_moves s

theorem closeErase_moves (q : Seq) : Moves s (s.closeErase q) := by
  unfold State.closeErase
  split
  case h_1 => exact (confirm_moves s _ _ _).trans (endSequence_moves _)
  all_goals exact endSequence_moves s

theorem closeCode_moves (kind : SeqKind) {f : State → Seq → State} (hf : ∀ a q, Moves a (f a q)) :
    Moves s (s.closeCode kind f) := by
  unfold State.closeCode
  split
  · exact (endNested_moves s).trans (hf _ _)
  · exact unplacedArrives_moves s _

theorem unplacedByte_moves (c : Byte) : Moves s (s.unplacedByte c) := by
  unfold State.unplacedByte
  split
  · exact unplacedArrives_moves s _
  · split
    · exact .ite (.refl s) (unplacedArrives_moves s _)
    · exact .ite (.refl s) (unplacedArrives_moves s _)

theorem moveProgram_moves (q : Seq) (col : BitVec 16) : Moves s (s.moveProgram q col) := by
  unfold State.moveProgram
  split
  case h_1 => exact .ite ((forward_moves s _).trans (onTag_moves _ _)) (count_moves s _)
  case h_2 => exact .ite (onSvc_moves s _) (count_moves s _)
  all_goals exact .refl s

theorem moveRead_moves (q : Seq) (col : BitVec 16) : Moves s (s.moveRead q col) := by
  unfold State.moveRead
  split
  case h_1 =>
    refine .ite ((loseOrder_moves s).trans (countOnce_moves _ q)) (.ite ?_ (count_moves s _))
    exact (forward_moves s _).trans (loseOrder_moves _)
  case h_2 => exact .ite (setSeq_moves s _) (count_moves s _)
  case h_3 => exact .ite (.refl s) (count_moves s _)
  all_goals exact .refl s

theorem columnMove_moves (col : BitVec 16) : Moves s (s.columnMove col) := by
  unfold State.columnMove
  split
  · refine .ite (unplacedArrives_moves s _) ?_
    split
    · exact (endNested_moves s).trans (moveProgram_moves _ _ _)
    · exact (endNested_moves s).trans (moveRead_moves _ _ _)
    · exact unplacedArrives_moves s _
    · exact unplacedArrives_moves s _
    · exact unplacedArrives_moves s _
  · exact unplacedArrives_moves s _

theorem dataIn_moves (q : Seq) (b : Byte) : Moves s (s.dataIn q b) := by
  unfold State.dataIn
  split
  · exact cutAddress_moves s q
  · exact .refl s
  · exact .refl s
  · exact .refl s
  · split
    · exact .ite (touchProgram_moves s (streamByte_frame s _ b)) (countOnce_moves s q)
    · exact strayCycle_moves s
  · split
    · exact .ite (onSvc_moves s _) (countOnce_moves s q)
    · exact .refl s
  · exact strayCycle_moves s
  · exact strayCycle_moves s

theorem strobeAbsorbed_moves (q : Seq) : Moves s (s.strobeAbsorbed q) := by
  unfold State.strobeAbsorbed
  split
  · exact answerByte_moves s _
  · exact answerByte_moves s _
  · exact .refl s
  · exact .refl s
  · exact .refl s

theorem strobeRead_moves (q : Seq) (b : Byte) : Moves s (s.strobeRead q b) := by
  refine .ite (.ite (answerByte_moves s _) (.ite ?busy ?ready)) (strayCycle_moves s)
  case busy => exact ((loseOrder_moves s).trans (countOnce_moves _ q)).trans (answerByte_moves _ _)
  case ready => exact ((forward_moves s _).trans (examine_moves _ b)).trans (answerByte_moves _ _)

theorem strobeReport_moves (q : Seq) (p : BitVec 7) (column : Nat) : Moves s (s.strobeReport q p column) := by
  refine .ite (.ite ((countOnce_moves s q).trans (answerByte_moves _ _)) ?_) (strayCycle_moves s)
  exact (setSeq_moves s _).trans (answerByte_moves _ _)

theorem dataOut_moves (q : Seq) (b : Byte) : Moves s (s.dataOut q b) := by
  unfold State.dataOut
  split
  · exact cutAddress_moves s q
  · exact strobeAbsorbed_moves s q
  · exact strobeAbsorbed_moves s q
  · exact strobeAbsorbed_moves s q
  · exact .ite (answerByte_moves s _) (strayCycle_moves s)
  · exact strayCycle_moves s
  · exact strobeReport_moves s q _ _
  · split
    · exact strobeRead_moves s q b
    · exact (forward_moves s _).trans (answerByte_moves _ _)
    · exact (answerStatus_moves s _ _ b).trans (endSequence_moves _)
    · exact strayCycle_moves s
    · exact strayCycle_moves s

/-! ### Inserts and module events -/

theorem startRelease_moves (cause : Option ReleaseCause) : Moves s (s.startRelease k cause) := by
  refine .ite ?_ (.refl s)
  refine .ite (.trans ?_ (markExposed_moves _ k 0)) (.of_eq rfl)
  exact .of_eq rfl

theorem startResume_moves : Moves s (s.startResume k) := .ite (.of_eq rfl) (.refl s)

theorem startInsert_moves (e : Insert) {rest : List Insert} (h : s.arb.queue = e :: rest) :
    Moves s (s.startInsert e rest) := by
  have started : Moves s ((s.onArb fun a => { a with queue := rest, running := some e }).drive (s.insertCycles e)) :=
    .of_book (.dequeue _ (by rw [State.books, h]; exact List.sublist_cons_self e rest)) rfl rfl
  unfold State.startInsert
  dsimp only
  split
  · exact started.trans (startRelease_moves _ _ _)
  · exact started.trans (startResume_moves _ _)
  · exact started
  · exact started

theorem settleSuspension_moves (b : Byte) : Moves s (s.settleSuspension k b) := by
  refine .ite (.ite (.of_eq rfl) (.trans ?_ (resumeSlot_moves _ k))) (closeSlot_moves s k _)
  exact .of_eq rfl

theorem statusReport_moves (b : Byte) : Moves s (s.statusReport k b) := by
  unfold State.statusReport
  dsimp only
  split
  · exact .ite (settleSuspension_moves s k b) (.ite (.ite (closeSlot_moves s k _) (setSlotLive_moves s k _)) (.refl s))
  · exact .ite (settleSuspension_moves s k b) (.refl s)
  · exact .refl s

theorem suspendReport_moves (ready : Bool) : Moves s (s.suspendReport k ready) := by
  refine .ite ?_ (.refl s)
  split
  · exact (request_moves s k _ _).trans (setSlotLive_moves _ k _)
  · exact (request_moves s k _ _).trans (setSlotLive_moves _ k _)
  · exact .refl s
  · exact .refl s

theorem issuedAgain_moves (l : SlotLive) : Moves s (s.issuedAgain k l) :=
  .ite ((request_moves s k _ _).trans (setSlotLive_moves _ k _)) (setSlotLive_moves s k _)

theorem resumeReport_moves : Moves s (s.resumeReport k) := .ite (issuedAgain_moves s k _) (.refl s)

theorem releaseReport_moves : Moves s (s.releaseReport k) :=
  .ite (.trans (t := s.onReleaseQueue fun q => q.filter fun m => decide (m ≠ k)) (.of_eq rfl) (issuedAgain_moves _ k _)) (.refl s)

theorem slotReturn_moves : Moves s (s.slotReturn k) := by
  unfold State.slotReturn
  dsimp only
  split
  · exact (request_moves s k _ _).trans (setSlotLive_moves _ k _)
  · exact (request_moves s k _ _).trans (setSlotLive_moves _ k _)
  · exact setSlotLive_moves s k _
  · exact .ite (setSlotLive_moves s k _) (.refl s)
  · exact .refl s

theorem readyReturn_moves : Moves s (s.readyReturn k) :=
  .ite (onRelay_moves s _) (.ite (onRelay_moves s _) (.ite (onRelay_moves s _) (slotReturn_moves s k)))

theorem timeOutRead_moves : Moves s (s.timeOutRead k) := by
  unfold State.timeOutRead
  split
  · exact .ite ((readEnds_moves s).trans (setSeq_moves _ _)) (.refl s)
  · exact .refl s

theorem busyLimit_moves (due : Nat) (f : Relay → Relay) : Moves s (((s.runTo due).onRelay f).makeStuck k) :=
  ((runTo_moves s due).trans (onRelay_moves _ f)).trans (makeStuck_moves _ k)

/-! ### The service block -/

theorem runCommand_moves (code : CmdCode) {f : List Byte → State → State × CmdDone} (hf : ∀ bytes, Moves s (f bytes s).1) :
    Moves s (s.runCommand code f) := by
  unfold State.runCommand
  split
  · exact .refl s
  · split
    · exact .refl s
    · exact .ite ((hf _).trans (onSvc_moves _ _)) (.refl s)

theorem setSetting_moves (bytes : List Byte) : Moves s (setSettingEffect bytes s).1 := by
  unfold setSettingEffect
  split
  · exact .refl s
  · exact storeSettings_moves s fun h => Settings.store_wf h _ _

/-- A mask of eight bits is an enable mask in range (R179). -/
theorem Settings.set_attnEnable_wf {t : Settings} (h : t.wf = true) (m : BitVec 8) :
    (t.set .attnEnable (m.toNat : Int)).wf = true := by
  rw [Settings.wf_iff] at h ⊢
  have := m.isLt
  exact { h with attnEnable := by constructor <;> simp only [Settings.set] <;> omega }

theorem modifyAttention_moves (bytes : List Byte) : Moves s (modifyAttentionEffect bytes s).1 :=
  storeSettings_moves s fun h => Settings.set_attnEnable_wf h _

/-- A charge clamped from 0 to CAPACITY is at most FULL (R171). -/
theorem clampInt_charge_le (t : Settings) (given : Int) :
    (clampInt 0 t.capacity given).toNat * Config.microCoulombPerMah ≤ t.full := by
  have : (clampInt 0 t.capacity given).toNat ≤ t.capacity.toNat := by
    unfold clampInt
    split <;> [omega; split <;> omega]
  exact Nat.mul_le_mul_right _ this

theorem endProcessing_moves : Moves s s.endProcessing := by
  unfold State.endProcessing
  split
  · exact .refl s
  · exact onSvc_moves s _
  · exact (onSvc_moves s _).trans (onRelay_moves _ _)
  · split
    · exact (onSvc_moves s _).trans (onRelay_moves _ _)
    · exact .refl s

theorem reportEffect_moves (p : BitVec 7) : Moves s (s.reportEffect p) := by
  unfold State.reportEffect
  split
  · exact .of_eq rfl
  · exact .ite (.of_book (.clearCounters _) rfl rfl) (.refl s)
  · exact .refl s

/-! ### Report pages -/

/-- `t` is a move from `s` but for the CE# pins and the free values. -/
def MovesBut (s t : State) : Prop := Moves s { t with ce := s.ce, freeIndex := s.freeIndex }

theorem Moves.but {s t : State} (h : Moves s t) : MovesBut s t := by
  have : { t with ce := s.ce, freeIndex := s.freeIndex } = t := by rw [← h.ce, ← h.freeIndex]
  rw [MovesBut, this]
  exact h

theorem Moves.trans_but {s t u : State} (h : Moves s t) (h' : MovesBut t u) : MovesBut s u := by
  rw [MovesBut, h.ce, h.freeIndex] at h'
  exact h.trans h'

/-- The snapshot of a report page counts on the free values that the page shows, and moves nothing else but the page 7 counters. -/
theorem takeSnapshot_moves (p : BitVec 7) :
    MovesBut s (s.takeSnapshot p) ∧ (s.takeSnapshot p).freeIndex = s.freeIndex + (reportContent s p).2
      ∧ (s.takeSnapshot p).ce = s.ce := by
  have taken (u : State) (n : Nat) : { u with freeIndex := n }.reportEffect p = { u.reportEffect p with freeIndex := n } := by
    unfold State.reportEffect
    split
    · rfl
    · dsimp only; split <;> rfl
    · rfl
  unfold State.takeSnapshot
  dsimp only
  rw [taken]
  have moved := (onSvc_moves s fun v =>
    { v with
      snapshot := some { page := p, content := (reportContent s p).1 }
      processing := some (.report p)
      processingBy := s.now + Config.reportTime }).trans (reportEffect_moves _ p)
  exact ⟨moved.but, rfl, moved.ce⟩

/-- The close code of a report page's read takes its snapshot. -/
theorem State.closeRead_report {q : Seq} {p : BitVec 7} {column : Nat} (h : q.handling = .svcReport p column) :
    s.closeRead q = (s.setSeq (some q)).takeSnapshot p := by
  unfold State.closeRead
  dsimp only
  split <;> simp_all only [reduceCtorEq, Handling.svcReport.injEq]

theorem closeRead_moves (q : Seq) : MovesBut s (s.closeRead q) ∧ (s.closeRead q).ce = s.ce := by
  have stored := setSeq_moves s (some q)
  unfold State.closeRead
  split
  case h_1 => exact ⟨(stored.trans (.trans (forward_moves _ _) (onRelay_moves _ _))).but, rfl⟩
  case h_2 =>
    obtain ⟨moved, -, ce⟩ := takeSnapshot_moves (s.setSeq (some q)) ‹_›
    exact ⟨stored.trans_but moved, ce⟩
  all_goals exact ⟨stored.but, rfl⟩

/-- A report page's own event counts on the free values its page shows (log 7). -/
theorem reportPage_moves (p : BitVec 7) :
    MovesBut s (s.reportPage p) ∧ (s.reportPage p).ce = s.ce
      ∧ ((∀ u, (reportContent u p).2 = 0) → (s.reportPage p).freeIndex = s.freeIndex) := by
  unfold State.reportPage
  split
  · exact ⟨(Moves.refl s).but, rfl, fun _ => rfl⟩
  · rename_i q _
    split
    case h_1 page _ hq =>
      split
      case isTrue hp =>
        subst hp
        have nested := endNested_moves s
        obtain ⟨moved, ce⟩ := closeRead_moves s.endNested { q with closeTaken := true }
        refine ⟨nested.trans_but moved, ce.trans nested.ce, fun free => ?_⟩
        have index := (takeSnapshot_moves (s.endNested.setSeq (some { q with closeTaken := true })) page).2.1
        rw [free, Nat.add_zero] at index
        rw [State.closeRead_report (q := { q with closeTaken := true }) _ hq]
        exact index.trans nested.freeIndex
      case isFalse => exact ⟨(Moves.refl s).but, rfl, fun _ => rfl⟩
    all_goals exact ⟨(Moves.refl s).but, rfl, fun _ => rfl⟩

/-! ### Commands -/

theorem begin_moves : Moves s s.begin := .of_eq rfl

theorem serving_moves {f : State → State} (hf : ∀ a, Moves a (f a)) : Moves s (s.serving f) := by
  unfold State.serving
  split
  · exact (begin_moves s).trans (hf _)
  · exact begin_moves s
  · exact begin_moves s

theorem hearing_moves {f : State → State} (hf : ∀ a, Moves a (f a)) : Moves s (s.hearing f) := by
  unfold State.hearing
  split
  · exact (begin_moves s).trans (hf _)
  · exact .ite (begin_moves s) ((begin_moves s).trans (onRelay_moves _ _))
  · exact begin_moves s

/-- What serving the drive port gives has a property that its effect has and the start of a command has. -/
theorem serving_cases {P : State → Prop} {f : State → State} (hf : P (f s.begin)) (h0 : P s.begin) : P (s.serving f) := by
  unfold State.serving
  split <;> assumption

/-- The commands of power and reset (R130, R132). -/
def IsReset (c : Instr) : Prop :=
  c = .powerLoss ∨ c = .resetAssert ∨ (∃ i, c = .powerOn i) ∨ ∃ i, c = .resetRelease i

/-- The commands that count on the free values (log 7). -/
def showsFree : List Instr := [.readClose, .reportPage4, .reportPage5, .reportPage6, .reportPage7]

/-- What a command other than those of power and reset does: a move, but that the CE# events set their pin and some report pages
count on the free values. -/
def MovesAs (c : Instr) (s t : State) : Prop :=
  MovesBut s t ∧ ((∀ k, c ≠ .ceAssert k ∧ c ≠ .ceDeassert k) → t.ce = s.ce) ∧ (c ∉ showsFree → t.freeIndex = s.freeIndex)

theorem Moves.as {s t : State} (h : Moves s t) (c : Instr) : MovesAs c s t := ⟨h.but, fun _ => h.ce, fun _ => h.freeIndex⟩

theorem setCe_as (v : Bool) {t : State} (h : Moves s t) {c : Instr} (hc : c = .ceAssert k ∨ c = .ceDeassert k) :
    MovesAs c s (t.setCe k v) :=
  ⟨h.but, fun none => absurd hc (not_or.2 (none k)), fun _ => h.freeIndex⟩

theorem reportPage_as (p : BitVec 7) {c : Instr} (hc : c ∈ showsFree ∨ ∀ u, (reportContent u p).2 = 0) :
    MovesAs c s (s.serving fun s => s.reportPage p) := by
  refine serving_cases (P := MovesAs c s) s ?_ ((begin_moves s).as c)
  obtain ⟨moved, ce, free⟩ := reportPage_moves s.begin p
  exact ⟨(begin_moves s).trans_but moved, fun _ => ce, fun h => free (hc.resolve_left h)⟩

theorem readClose_as : MovesAs .readClose s (s.serving fun s => s.closeCode .read State.closeRead) := by
  refine serving_cases (P := MovesAs .readClose s) s ?_ ((begin_moves s).as _)
  unfold State.closeCode
  split
  · have nested := (begin_moves s).trans (endNested_moves _)
    obtain ⟨moved, ce⟩ := closeRead_moves s.begin.endNested _
    exact ⟨nested.trans_but moved, fun _ => ce.trans nested.ce, fun h => absurd (by decide) h⟩
  · exact ((begin_moves s).trans (unplacedArrives_moves _ _)).as _

/-- Every command but those of power and reset moves the part. -/
theorem exec_moves {c : Instr} (hc : ¬IsReset c) : ∃ t, exec c s = .next t ∧ MovesAs c s t := by
  have plain {t : State} (h : Moves s t) :
      ∃ u, (Host.Outcome.next t : Host.Outcome State Fault Refusal) = .next u ∧ MovesAs c s u := ⟨t, rfl, h.as c⟩
  have paged {p : BitVec 7} (h : c ∈ showsFree ∨ ∀ u, (reportContent u p).2 = 0) :
      ∃ u, (Host.Outcome.next (s.serving fun s => s.reportPage p) : Host.Outcome State Fault Refusal) = .next u
        ∧ MovesAs c s u := ⟨_, rfl, reportPage_as s p h⟩
  cases c with
  | readOpen => exact plain (hearing_moves s fun a => openLatched_moves a _)
  | programOpen => exact plain (hearing_moves s fun a => openLatched_moves a _)
  | eraseOpen => exact plain (hearing_moves s fun a => openLatched_moves a _)
  | identify => exact plain (hearing_moves s fun a => openLatched_moves a _)
  | status =>
    refine plain (hearing_moves s fun a => ?_)
    split
    · exact .refl a
    · exact (count_moves a _).trans (onRelay_moves _ _)
    · exact openStatus_moves a _
  | moduleReset => exact plain (hearing_moves s fun a => openCode_moves a moduleReset_moves)
  | suspend => exact plain (hearing_moves s fun a => openCode_moves a discardCode_moves)
  | resume => exact plain (hearing_moves s fun a => openCode_moves a discardCode_moves)
  | addressCycle b => exact plain (serving_moves s fun a => takeAddress_moves a b)
  | columnMove col => exact plain (serving_moves s fun a => columnMove_moves a col)
  | dataInCycle b =>
    refine plain (serving_moves s fun a => ?_)
    split
    · exact .refl a
    · exact dataIn_moves a _ b
    · exact strayCycle_moves a
  | dataOutStrobe b =>
    refine plain (serving_moves s fun a => ?_)
    split
    · exact .refl a
    · exact (answerStatus_moves a _ _ b).trans (endNested_moves _)
    · exact dataOut_moves a _ b
    · exact strayCycle_moves a
  | readClose => exact ⟨_, rfl, readClose_as s⟩
  | programClose => exact plain (serving_moves s fun a => closeCode_moves a _ closeProgram_moves)
  | eraseClose => exact plain (serving_moves s fun a => closeCode_moves a _ closeErase_moves)
  | unplacedCode b => exact plain (serving_moves s fun a => unplacedByte_moves a b)
  | ceAssert k =>
    refine ⟨_, rfl, setCe_as s k true (serving_moves s fun a => ?_) (.inl rfl)⟩
    exact .ite (.trans (wake_moves a) (.of_eq rfl)) (idleZero_moves a)
  | ceDeassert k =>
    refine ⟨_, rfl, setCe_as s k false (serving_moves s fun a => ?_) (.inr rfl)⟩
    split
    · exact .ite (endSequence_moves a) (.refl a)
    · exact .refl a
  | moduleReadyReturn k => exact plain (serving_moves s fun a => readyReturn_moves a k)
  | readBusyTimeout k =>
    refine plain (serving_moves s fun a => ?_)
    split
    · exact (busyLimit_moves a k _ _).trans (timeOutRead_moves _ k)
    · exact .refl a
  | resetBusyTimeout k =>
    refine plain (serving_moves s fun a => ?_)
    split
    · exact busyLimit_moves a k _ _
    · exact .refl a
  | residualBusyTimeout k =>
    refine plain (serving_moves s fun a => ?_)
    split
    · exact busyLimit_moves a k _ _
    · exact .refl a
  | busyTimerExpiry k =>
    refine plain (serving_moves s fun a => ?_)
    dsimp only
    split
    · exact (((runTo_moves a _).trans (withdraw_moves _ k)).trans (closeSlot_moves _ k _)).trans (makeStuck_moves _ k)
    · exact .refl a
  | holdLimitExpiry k =>
    exact plain (serving_moves s fun a => .ite ((runTo_moves a _).trans (breakHold_moves _ k)) (.refl a))
  | insertStart =>
    refine plain (serving_moves s fun a => ?_)
    split
    · exact .refl a
    · exact .ite ((runTo_moves a _).trans (startInsert_moves _ _ ‹_›)) (.refl a)
  | statusCheckComplete b =>
    refine plain (serving_moves s fun a => ?_)
    split
    · exact (insertEnds_moves a).trans (statusReport_moves _ _ b)
    · exact .refl a
  | suspendComplete ready =>
    refine plain (serving_moves s fun a => ?_)
    split
    · exact (insertEnds_moves a).trans (suspendReport_moves _ _ ready)
    · exact .refl a
  | resumeComplete =>
    refine plain (serving_moves s fun a => ?_)
    split
    · exact (insertEnds_moves a).trans (resumeReport_moves _ _)
    · exact .refl a
  | releaseComplete =>
    refine plain (serving_moves s fun a => ?_)
    split
    · exact (insertEnds_moves a).trans (releaseReport_moves _ _)
    · exact .refl a
  | pollDue =>
    refine plain (serving_moves s fun a => ?_)
    split
    · exact .of_eq rfl
    · exact .refl a
  | sampleArrival r =>
    refine plain (serving_moves s fun a => ?_)
    split
    · exact .trans (.trans (runTo_moves a _) (by exact .of_eq rfl)) (takeReply_moves _ r)
    · exact .refl a
  | currentSampleDue => exact plain (serving_moves s fun a => .of_eq rfl)
  | currentSampleArrival raw =>
    exact plain (serving_moves s fun a => .ite (.trans (by exact .of_eq rfl) (takeCurrent_moves _ _)) (.refl a))
  | voltageSampleDue => exact plain (serving_moves s fun a => .of_eq rfl)
  | voltageSampleArrival mv =>
    exact plain (serving_moves s fun a => .ite (.trans (by exact .of_eq rfl) (takeVoltage_moves _ _)) (.refl a))
  | qCopyDue => exact plain (serving_moves s fun a => .of_eq rfl)
  | stampSecond => exact plain (serving_moves s fun a => .of_eq rfl)
  | stampCopyDue => exact plain (serving_moves s fun a => .of_eq rfl)
  | dozeEntry => exact plain (serving_moves s fun a => .ite (fallAsleep_moves a) (.refl a))
  | powerLoss => exact absurd (.inl rfl) hc
  | powerOn inp => exact absurd (.inr (.inr (.inl ⟨inp, rfl⟩))) hc
  | resetAssert => exact absurd (.inr (.inl rfl)) hc
  | resetRelease inp => exact absurd (.inr (.inr (.inr ⟨inp, rfl⟩))) hc
  | setSetting => exact plain (serving_moves s fun a => runCommand_moves a _ (setSetting_moves a))
  | modifyAttention => exact plain (serving_moves s fun a => runCommand_moves a _ (modifyAttention_moves a))
  | setStamp => exact plain (serving_moves s fun a => runCommand_moves a _ fun _ => .of_eq rfl)
  | setCharge =>
    exact plain (serving_moves s fun a => runCommand_moves a _ fun _ => putCharge_moves a (clampInt_charge_le _ _))
  | markFull => exact plain (serving_moves s fun a => runCommand_moves a _ fun _ => putCharge_moves a le_rfl)
  | releaseSuspect =>
    refine plain (serving_moves s fun a => runCommand_moves a _ fun bytes => ?_)
    unfold releaseSuspectEffect
    split
    · exact .refl a
    · exact releaseSuspects_moves a _
  | clearShockLog => exact plain (serving_moves s fun a => runCommand_moves a _ fun _ => clearShocks_moves a _)
  | releaseHolds => exact plain (serving_moves s fun a => runCommand_moves a _ fun _ => forceAll_moves a)
  | clearCounters =>
    exact plain (serving_moves s fun a => runCommand_moves a _ fun _ => .of_book (.clearCounters _) rfl rfl)
  | restoreDefaults =>
    exact plain (serving_moves s fun a => runCommand_moves a _ fun _ => storeSettings_moves a fun _ => Settings.defaults_wf)
  | reportPage1 => exact paged (.inr fun _ => rfl)
  | reportPage2 => exact paged (.inr fun _ => rfl)
  | reportPage3 => exact paged (.inr fun _ => rfl)
  | reportPage4 => exact paged (.inl (by decide))
  | reportPage5 => exact paged (.inl (by decide))
  | reportPage6 => exact paged (.inl (by decide))
  | reportPage7 => exact paged (.inl (by decide))
  | serviceProcessingEnd => exact plain (serving_moves s endProcessing_moves)

/-! ### Power and reset -/

/-- What a command of power and reset does: nothing but the RESET# pin, a wait at step 2, step 1 alone, or steps 3 to 9. -/
inductive ResetOutcome (s : State) : State → Prop
  | idle (pin : Bool) (h : ∀ kind, s.phase = .inReset kind → pin = s.resetPin) :
    ResetOutcome s { s.begin with resetPin := pin }
  | waits (hpin : s.resetPin = true) : ResetOutcome s { s.begin with phase := .inReset .powerOn }
  | stops : ResetOutcome s s.loseVolatile
  | abandons (hpin : s.resetPin = false) (hphase : s.phase ≠ .unpowered) : ResetOutcome s { s.abandon with resetPin := true }
  | serves (kind : ResetKind) (inp : ResetInputs) (h : kind = .warm → s.phase = .inReset .warm) :
    ResetOutcome s ({ s.begin with resetPin := false }.runReset kind inp)

theorem exec_resets {c : Instr} (hc : IsReset c) : ∃ t, exec c s = .next t ∧ ResetOutcome s t := by
  have idle : ResetOutcome s s.begin := .idle s.resetPin fun _ _ => rfl
  rcases hc with rfl | rfl | ⟨inp, rfl⟩ | ⟨inp, rfl⟩
  · exact ⟨_, rfl, .stops⟩
  · refine ⟨_, rfl, ?_⟩
    unfold State.assertReset
    split
    · exact idle
    · split
      · exact .idle true fun kind h => by simp_all
      · exact .abandons (by simp_all) (by simp_all)
      · exact .abandons (by simp_all) (by simp_all)
  · refine ⟨_, rfl, ?_⟩
    split
    · unfold State.powerOn
      split
      · exact .waits ‹_›
      · have pin : s.begin = { s.begin with resetPin := false } := by
          rw [show false = s.begin.resetPin by simp_all]
        rw [pin]
        exact .serves .powerOn inp nofun
    · exact idle
    · exact idle
  · refine ⟨_, rfl, ?_⟩
    split
    · unfold State.releaseReset
      split
      · exact .serves _ inp fun h => by simp_all
      · exact .idle false fun kind h => by simp_all
      · exact .idle false fun kind h => by simp_all
    · exact idle

theorem reconcileSlot_moves : Moves s (s.reconcileSlot k) := by
  unfold State.reconcileSlot
  exact (setSlotRec_moves s k _).trans (handRequest_moves _ _ _)

theorem reconcile_moves (interrupted : Bool) : Moves s (s.reconcile interrupted) := by
  refine .ite (.refl s) (.ite (.foldl reconcileSlot_moves _ s) ?_)
  exact ((createShock_moves s _ false).trans (.foldl reconcileSlot_moves _ _)).trans
    (changeShock_moves _ _ fun _ => rfl)

theorem closeRecords_moves : Moves s s.closeRecords := .of_book (.rewrite _ fun _ => rfl) rfl rfl

/-- The part as reconciliation finds it: steps 3 to 6 of a reset done (R132). -/
def State.restored (s : State) (kind : ResetKind) (inp : ResetInputs) : State :=
  State.resetGauge
    { s with straps := { svcSel := inp.svcSel, modCnt := inp.modCnt }, ret := (kind.readMemory s.ret).2 }
    (kind.readMemory s.ret).1 inp.sample.toNat

/-- Reconciliation moves the part as step 6 leaves it. -/
theorem reconciled_moves (kind : ResetKind) (inp : ResetInputs) :
    Moves (s.restored kind inp)
      ((s.restored kind inp).closeRecords.reconcile (s.restored kind inp).interrupted) :=
  (closeRecords_moves _).trans (reconcile_moves _ _)

theorem runReset_books (kind : ResetKind) (inp : ResetInputs) : Books.Run s.books (s.runReset kind inp).books := by
  have memory : Books.Run s.books (s.restored kind inp).books := by
    unfold State.restored ResetKind.readMemory
    split
    · exact .refl
    · exact .single (.setUp _)
  refine (memory.trans (reconciled_moves s kind inp).books).trans (.tail (.single (.dequeue _ (List.nil_sublist _))) ?_)
  exact .clearCounters _

theorem runReset_fixed (kind : ResetKind) (inp : ResetInputs) :
    (s.runReset kind inp).phase = .running ∧ (s.runReset kind inp).resetPin = s.resetPin
      ∧ (s.runReset kind inp).ce = s.ce ∧ (s.runReset kind inp).freeIndex = s.freeIndex
      ∧ (s.runReset kind inp).pending = s.pending :=
  have moved := reconciled_moves s kind inp
  ⟨rfl, moved.resetPin, moved.ce, moved.freeIndex, moved.pending⟩

theorem resetGauge_charge (kind : ResetKind) (mv : Nat) : (s.resetGauge kind mv).gauge.q = (s.resetCharge kind).q := rfl

/-- The gauge after a reset: the charge of step 5 and the reset sample in every place (R106, R114, R117). -/
theorem runReset_gauge (kind : ResetKind) (inp : ResetInputs) :
    (s.runReset kind inp).gauge = (s.restored kind inp).gauge := by
  have closed (u : State) (l : List ModuleId) : (l.foldl State.reconcileSlot u).gauge = u.gauge :=
    (touchSlots_foldl reconcileSlot_frame l u).reads (fun t : State => t.gauge) fun _ _ => rfl
  show ((s.restored kind inp).closeRecords.reconcile (s.restored kind inp).interrupted).gauge = _
  unfold State.reconcile
  split
  · rfl
  · split
    · rw [closed]
      rfl
    · show (List.foldl _ _ _ : State).gauge = _
      rw [closed]
      exact (createShock_frame _ _ _).reads (fun t : State => t.gauge) fun _ _ => rfl

/-- Every command writes the books by their elementary changes. -/
theorem exec_books (c : Instr) {t : State} (h : exec c s = .next t) : Books.Run s.books t.books := by
  by_cases hc : IsReset c
  · obtain ⟨u, hu, outcome⟩ := exec_resets s hc
    obtain rfl : u = t := by simpa [hu] using h
    have emptied : Books.Run s.books { s.books with queue := [], counters := Counters.zero } :=
      .tail (.single (.dequeue _ (List.nil_sublist _))) (.clearCounters _)
    cases outcome with
    | idle => exact .refl
    | waits => exact .refl
    | stops => exact emptied
    | abandons => exact emptied
    | serves => exact runReset_books { s.begin with resetPin := false } _ _
  · obtain ⟨u, hu, moved, -⟩ := exec_moves s hc
    obtain rfl : u = t := by simpa [hu] using h
    exact moved.books

/-- Every step writes the books by their elementary changes. -/
theorem step_books {t : State} (h : step s = .next t) : Books.Run s.books t.books := by
  unfold step at h
  split at h
  · obtain rfl : s.tick = t := by simpa using h
    unfold State.tick
    split <;> exact .refl
  · rename_i rest _
    exact exec_books { s with pending := rest } _ h

/-- A step leaves the phase and RESET# and moves the vitals, or is a command of power and reset. -/
theorem step_cases {t : State} (h : step s = .next t) :
    (t.phase = s.phase ∧ t.resetPin = s.resetPin ∧ Vitals.Run s.vitals t.vitals)
      ∨ ∃ rest, ResetOutcome { s with pending := rest } t := by
  unfold step at h
  split at h
  case h_1 =>
    obtain rfl : s.tick = t := by simpa using h
    unfold State.tick
    split <;> exact .inl ⟨rfl, rfl, .refl⟩
  case h_2 c rest _ =>
    by_cases hc : IsReset c
    · obtain ⟨u, hu, outcome⟩ := exec_resets { s with pending := rest } hc
      obtain rfl : u = t := by simpa [hu] using h
      exact .inr ⟨rest, outcome⟩
    · obtain ⟨u, hu, moved, -⟩ := exec_moves { s with pending := rest } hc
      obtain rfl : u = t := by simpa [hu] using h
      exact .inl ⟨moved.phase, moved.resetPin, moved.vitals⟩

end Sys2Proof.Machine
end

section
/-! PROOFS. The invariants every step keeps, each from what one elementary change keeps (R20, R53, R110, R117, R142, R155, R182). -/

namespace Sys2Proof.Machine

/-! ### Invariants of the books -/

theorem Books.Change.queue_nodup {b b' : Books} (h : Change b b') (hq : (b.queue.map Insert.module).Nodup) :
    (b'.queue.map Insert.module).Nodup := by
  cases h with
  | request _ e => exact queueRequest_nodup hq e
  | dequeue _ hs => exact hq.sublist (hs.map _)
  | create s r raises =>
    rw [show (s.createShock r raises).1.books.queue = s.books.queue from
      (createShock_frame s r raises).reads (fun t : State => t.arb.queue) fun _ _ => rfl]
    exact hq
  | _ => exact hq

/-- Settles O5: a request takes its module's place or joins the tail, and nothing else adds to the insert queue. -/
theorem oneInsertPerModuleStays : Obligations.OneInsertPerModuleStays := fun s _ hs h =>
  Books.Run.keeps (P := fun b => (b.queue.map Insert.module).Nodup) (fun _ _ hc => hc.queue_nodup) (step_books s h) hs

/-- The suspect list keyed and bounded, and its overflow count in range (R142, R144). -/
def Books.Keyed (b : Books) : Prop := Machine.Keyed b.suspects ∧ b.overflow ≤ 255

theorem SuspectsKeyed_iff (s : State) : s.SuspectsKeyed ↔ s.books.Keyed := and_assoc.symm

theorem Books.Change.keyed {b b' : Books} (h : Change b b') (hb : b.Keyed) : b'.Keyed := by
  obtain ⟨list, overflow⟩ := hb
  cases h with
  | hand _ req => exact ⟨addSuspect_keyed list _ req, addSuspect_overflow overflow req⟩
  | replace _ e => exact ⟨keyed_of_keys (replaceSuspect_keys _ e) list, overflow⟩
  | remove _ p => exact ⟨keyed_filter list p, overflow⟩
  | clearSuspects => exact ⟨⟨Nat.zero_le _, .nil⟩, Nat.zero_le _⟩
  | setUp => exact ⟨⟨Nat.zero_le _, .nil⟩, Nat.zero_le _⟩
  | create s r raises =>
    have kept : (s.createShock r raises).1.SuspectsKeyed ↔ s.SuspectsKeyed :=
      iff_of_eq ((createShock_frame s r raises).reads State.SuspectsKeyed fun _ _ => rfl)
    rw [SuspectsKeyed_iff, SuspectsKeyed_iff] at kept
    exact kept.2 ⟨list, overflow⟩
  | _ => exact ⟨list, overflow⟩

/-- Settles O7: an entry request merges into the entry of its key, takes a free place or is dropped, and the rest only remove. -/
theorem suspectListStaysKeyed : Obligations.SuspectListStaysKeyed := fun s t hs h =>
  (SuspectsKeyed_iff t).2 (Books.Run.keeps (fun _ _ hc => hc.keyed) (step_books s h) ((SuspectsKeyed_iff s).1 hs))

/-- The shock log in order under its epoch, and both counts in range (R155 to R157). -/
def Books.Ordered (b : Books) : Prop :=
  Machine.Ordered b.shocks b.epoch ∧ b.epoch ≤ Config.maxWord32 ∧ b.overwritten ≤ 65535

theorem Books.Change.ordered {b b' : Books} (h : Change b b') (hb : b.Ordered) : b'.Ordered := by
  cases h with
  | create s r raises => exact (ShocksOrdered_iff _).1 (createShock_ordered s ((ShocksOrdered_iff s).2 hb) r raises)
  | rewrite _ hf => exact ⟨ordered_map hb.1 hf, hb.2⟩
  | clearShocks _ p => exact ⟨ordered_sublist List.filter_sublist hb.1, hb.2.1, Nat.zero_le _⟩
  | setUp => exact ⟨⟨Nat.zero_le _, .nil, nofun⟩, Nat.zero_le _, Nat.zero_le _⟩
  | _ => exact hb

/-- Settles O8: a record takes the number after the epoch, a full log drops its oldest, and no change renumbers one. -/
theorem shockLogStaysOrdered : Obligations.ShockLogStaysOrdered := fun s t hs h =>
  (ShocksOrdered_iff t).2
    (Books.Run.keeps (P := Books.Ordered) (fun _ _ hc => hc.ordered) (step_books s h) ((ShocksOrdered_iff s).1 hs))

theorem Books.Change.counters_le {b b' : Books} (h : Change b b') (hb : ∀ i, b.counters.get i ≤ 65535) :
    ∀ i, b'.counters.get i ≤ 65535 := by
  cases h with
  | count _ i => exact Counters.get_set_le hb (grow16_le _)
  | clearCounters => intro i; cases i <;> exact Nat.zero_le _
  | create s r raises =>
    rw [show (s.createShock r raises).1.books.counters = s.books.counters from
      (createShock_frame s r raises).reads (fun t : State => t.counters) fun _ _ => rfl]
    exact hb
  | _ => exact hb

/-! ### Invariants of the vitals -/

/-- The settings in range and, on a part that serves, WINDOW values in the window with their sum (R53, R182). -/
def Vitals.WindowSummed (v : Vitals) (serves : Prop) : Prop :=
  v.settings.wf = true ∧ (serves → (v.window.length : Int) = v.settings.window ∧ v.sum = v.window.sum)

theorem Vitals.Change.settings_wf {v v' : Vitals} (h : Change v v') (hv : v.settings.wf = true) : v'.settings.wf = true := by
  cases h with
  | store new hwf => exact hwf hv
  | _ => exact hv

/-- A window that a value enters keeps its length and its sum (R53, R117). -/
theorem window_enter {l : List Nat} (h : 0 < l.length) (x : Nat) :
    (l.tail ++ [x]).length = l.length ∧ (l.tail ++ [x]).sum = l.sum - l.headD 0 + x := by
  cases l with
  | nil => simp at h
  | cons y l => simp

theorem Vitals.Change.windowSummed {v v' : Vitals} {serves : Prop} (h : Change v v') (hv : v.WindowSummed serves) :
    v'.WindowSummed serves := by
  obtain ⟨hwf, hw⟩ := hv
  refine ⟨h.settings_wf hwf, fun hs => ?_⟩
  obtain ⟨len, sum⟩ := hw hs
  have pos := ((Settings.wf_iff _).1 hwf).window_pos
  cases h with
  | store new hnew average =>
    have newPos := ((Settings.wf_iff _).1 (hnew hwf)).window_pos
    by_cases same : v.settings.window = new.window
    · simp only [same, if_true]
      exact ⟨len.trans same, sum⟩
    · simp only [same, if_false, List.length_replicate, List.sum_replicate, smul_eq_mul]
      exact ⟨by omega, Nat.mul_comm _ _⟩
  | refill x =>
    rw [List.length_replicate, List.sum_replicate, smul_eq_mul, Nat.mul_comm]
    exact ⟨len, rfl⟩
  | enter x =>
    obtain ⟨length, total⟩ := window_enter (l := v.window) (by omega) x
    exact ⟨by rw [length]; exact len, by rw [total, ← sum]⟩
  | enterVoltage => exact ⟨len, sum⟩
  | charge => exact ⟨len, sum⟩

/-- Sixteen values in the voltage window, with their sum (R117). -/
def Vitals.VoltageSummed (v : Vitals) : Prop := v.vWindow.length = Config.voltagePlaces ∧ v.vSum = v.vWindow.sum

theorem Vitals.Change.voltageSummed {v v' : Vitals} (h : Change v v') (hv : v.VoltageSummed) : v'.VoltageSummed := by
  obtain ⟨len, sum⟩ := hv
  cases h with
  | enterVoltage x =>
    obtain ⟨length, total⟩ := window_enter (l := v.vWindow) (by rw [len]; decide) x
    exact ⟨length.trans len, by rw [total, ← sum]⟩
  | _ => exact ⟨len, sum⟩

theorem Vitals.Change.charge_le {v v' : Vitals} (h : Change v v') (hv : v.q ≤ v.settings.full) : v'.q ≤ v'.settings.full := by
  cases h with
  | store new =>
    dsimp only
    split
    · rename_i same
      rw [Settings.full, ← same]
      exact hv
    · exact min_le_right _ _
  | charge hq => exact hq
  | _ => exact hv

/-! ### The settings and the two windows -/

/-- A command of power and reset keeps the settings in range. -/
theorem ResetOutcome.settings_wf {s t : State} (h : ResetOutcome s t) (hs : s.ret.settings.wf = true) :
    t.ret.settings.wf = true := by
  cases h with
  | serves kind inp =>
    rw [State.runReset_settings]
    exact kind.readMemory_wf hs
  | _ => exact hs

/-- Settles O4: a value stored was brought into its range, a mask has eight bits, and the defaults are in range. -/
theorem settingsStayInRange : Obligations.SettingsStayInRange := by
  intro s t hs h
  rcases step_cases s h with ⟨-, -, run⟩ | ⟨rest, outcome⟩
  · exact Vitals.Run.keeps (P := fun v => v.settings.wf = true) (fun _ _ hc => hc.settings_wf) run hs
  · exact outcome.settings_wf hs

theorem ResetOutcome.windowSummed {s t : State} (h : ResetOutcome s t) (hs : s.WindowSummed) : t.WindowSummed := by
  refine ⟨h.settings_wf hs.1, fun running => ?_⟩
  cases h with
  | idle => exact hs.2 running
  | waits => exact nomatch running
  | stops => exact nomatch running
  | abandons => exact nomatch running
  | serves kind inp =>
    have wf := (ResetOutcome.serves kind inp ‹_›).settings_wf hs.1
    have pos := ((Settings.wf_iff _).1 wf).window_pos
    rw [State.runReset_fe]
    simp only [FrontEnd.initial, List.length_replicate, List.sum_replicate, smul_eq_mul]
    exact ⟨Int.toNat_of_nonneg (le_trans (by decide) pos), Nat.mul_comm _ _⟩

theorem ResetOutcome.voltageSummed {s t : State} (h : ResetOutcome s t) (hs : s.VoltageSummed) : t.VoltageSummed := by
  cases h with
  | idle => exact hs
  | waits => exact hs
  | stops => exact ⟨rfl, rfl⟩
  | abandons => exact ⟨rfl, rfl⟩
  | serves kind inp =>
    unfold State.VoltageSummed
    rw [runReset_gauge]
    exact ⟨List.length_replicate, List.sum_replicate_nat.symm⟩

/-- Settles O6: each entry takes the place and the share of the oldest, a refill writes every place, and so does a reset. -/
theorem windowSumStaysRight : Obligations.WindowSumStaysRight := by
  refine ⟨fun s t hs h => ?_, fun s t hs h => ?_⟩
  · rcases step_cases s h with ⟨phase, -, run⟩ | ⟨rest, outcome⟩
    · rw [State.WindowSummed, phase]
      exact Vitals.Run.keeps (P := fun v => v.WindowSummed (s.phase = .running)) (fun _ _ hc => hc.windowSummed) run hs
    · exact outcome.windowSummed hs
  · rcases step_cases s h with ⟨-, -, run⟩ | ⟨rest, outcome⟩
    · exact Vitals.Run.keeps (P := Vitals.VoltageSummed) (fun _ _ hc => hc.voltageSummed) run hs
    · exact outcome.voltageSummed hs

/-! ### The charge -/

/-- The charge that step 5 of a reset gives lies inside FULL: clamped at power-on, live at a warm reset (R114). -/
theorem restored_charge_le {s : State} (kind : ResetKind) (inp : ResetInputs)
    (hq : kind = .warm → s.gauge.q ≤ s.ret.settings.full) :
    (s.restored kind inp).gauge.q ≤ (kind.readMemory s.ret).2.settings.full := by
  have clamped (u : State) : (u.resetCharge .powerOn).q ≤ u.ret.settings.full := min_le_right _ _
  unfold State.restored
  rw [resetGauge_charge]
  unfold ResetKind.readMemory
  split
  · cases kind with
    | powerOn => exact clamped _
    | warm => exact hq rfl
  · exact clamped _

theorem ResetOutcome.chargeInside {s t : State} (h : ResetOutcome s t) (hs : s.ChargeInside) : t.ChargeInside := by
  obtain ⟨charge, waiting⟩ := hs
  cases h with
  | idle pin hpin => exact ⟨charge, fun hp => (hpin _ hp).trans (waiting hp)⟩
  | waits hpin => exact ⟨nofun, fun _ => hpin⟩
  | stops => exact ⟨nofun, nofun⟩
  | abandons hpin hphase =>
    refine ⟨fun _ => charge ?_, nofun⟩
    cases hp : s.phase with
    | running => exact .inl rfl
    | unpowered => exact absurd hp hphase
    | inReset kind =>
      cases kind with
      | warm => exact .inr rfl
      | powerOn => exact absurd (waiting hp) (by simp [hpin])
  | serves kind inp hwarm =>
    refine ⟨fun _ => ?_, fun hp => ?_⟩
    · rw [runReset_gauge, State.runReset_settings]
      exact restored_charge_le kind inp fun hk => charge (.inr (hwarm hk))
    · rw [(runReset_fixed _ kind inp).1] at hp
      exact nomatch hp

/-- Settles O9: a sample clamps Q to FULL, a change of CAPACITY and a power-on clamp it, and each count stops at 65535. -/
theorem chargeStaysInside : Obligations.ChargeStaysInside := by
  refine ⟨fun s t hs h => ?_, fun s t hs h => ?_⟩
  · rcases step_cases s h with ⟨phase, pin, run⟩ | ⟨rest, outcome⟩
    · rw [State.ChargeInside, phase, pin]
      refine ⟨fun hp => ?_, hs.2⟩
      exact Vitals.Run.keeps (P := fun v => v.q ≤ v.settings.full) (fun _ _ hc => hc.charge_le) run (hs.1 hp)
    · exact outcome.chargeInside hs
  · exact Books.Run.keeps (P := fun b => ∀ i, b.counters.get i ≤ 65535) (fun _ _ hc => hc.counters_le) (step_books s h) hs

/-! ### The queue and the pins -/

/-- The conclusion that CommandsAnswerNextAndKeepQueueAndPins draws for one command. -/
def KeepsQueueAndPins (c : Instr) (s t : State) : Prop :=
  t.pending = s.pending
    ∧ ((∀ k, c ≠ .ceAssert k ∧ c ≠ .ceDeassert k) → t.ce = s.ce)
    ∧ (c ≠ .resetAssert → (∀ i, c ≠ .resetRelease i) → t.resetPin = s.resetPin)
    ∧ (c ≠ .powerLoss → c ≠ .resetAssert → (∀ i, c ≠ .resetRelease i) → (∀ i, c ≠ .powerOn i) →
        t.straps = s.straps ∧ t.phase = s.phase)
    ∧ (c ∉ [.readClose, .reportPage4, .reportPage5, .reportPage6, .reportPage7] → t.freeIndex = s.freeIndex)

theorem MovesAs.keepsQueueAndPins {c : Instr} {s t : State} (h : MovesAs c s t) : KeepsQueueAndPins c s t :=
  have ⟨moved, ce, free⟩ := h
  ⟨moved.pending, ce, fun _ _ => moved.resetPin, fun _ _ _ _ => ⟨moved.straps, moved.phase⟩, free⟩

/-- A command of power and reset keeps the queue, the CE# pins and the free values, and POWER_LOSS and POWER_ON keep RESET#. -/
theorem ResetOutcome.keeps {s t : State} (h : ResetOutcome s t) :
    t.pending = s.pending ∧ t.ce = s.ce ∧ t.freeIndex = s.freeIndex := by
  cases h with
  | serves kind inp =>
    obtain ⟨-, -, ce, free, pending⟩ := runReset_fixed { s.begin with resetPin := false } kind inp
    exact ⟨pending, ce, free⟩
  | _ => exact ⟨rfl, rfl, rfl⟩

theorem execPowerOn_resetPin (s : State) (inp : ResetInputs) :
    ∃ t, execPowerOn inp s = .next t ∧ t.resetPin = s.resetPin := by
  refine ⟨_, rfl, ?_⟩
  split
  · unfold State.powerOn
    split
    · rfl
    · exact (runReset_fixed s.begin _ inp).2.1
  · rfl
  · rfl

/-- Settles O3: every command but those of power and reset moves the part, and these keep the queue, the pins and the free values. -/
theorem commandsAnswerNextAndKeepQueueAndPins : Obligations.CommandsAnswerNextAndKeepQueueAndPins := by
  intro c s
  by_cases hc : IsReset c
  · obtain ⟨t, ht, outcome⟩ := exec_resets s hc
    obtain ⟨pending, ce, free⟩ := outcome.keeps
    refine ⟨t, ht, pending, fun _ => ce, ?pin, ?phase, fun _ => free⟩
    case phase =>
      intro loss assert release on
      rcases hc with rfl | rfl | ⟨i, rfl⟩ | ⟨i, rfl⟩
      · exact absurd rfl loss
      · exact absurd rfl assert
      · exact absurd rfl (on i)
      · exact absurd rfl (release i)
    case pin =>
      intro assert release
      rcases hc with rfl | rfl | ⟨i, rfl⟩ | ⟨i, rfl⟩
      · obtain rfl : s.loseVolatile = t := by simpa [exec, execPowerLoss] using ht
        rfl
      · exact absurd rfl assert
      · obtain ⟨u, hu, pin⟩ := execPowerOn_resetPin s i
        obtain rfl : u = t := Host.Outcome.next.inj (hu.symm.trans ht)
        exact pin
      · exact absurd rfl (release i)
  · obtain ⟨t, ht, moved⟩ := exec_moves s hc
    exact ⟨t, ht, moved.keepsQueueAndPins⟩

end Sys2Proof.Machine
end

section
/-! PROOFS. The step, the tick and the part after its first power-on ever (log 1, log 3). -/

namespace Sys2Proof.Machine

/-- Settles O1: by the definition of a step on a queue that is not empty. -/
theorem stepRunsTheFrontCommand : Obligations.StepRunsTheFrontCommand := by
  intro c rest s h
  rw [step, h]

/-! ### The events due -/

theorem mem_postIf {due : Bool} {c d : Instr} : c ∈ postIf due d ↔ due = true ∧ c = d := by
  unfold postIf
  cases due <;> simp

theorem mem_postEach {due : ModuleId → Bool} {f : ModuleId → Instr} {c : Instr} :
    c ∈ postEach due f ↔ ∃ k, due k = true ∧ c = f k := by
  have all (k : ModuleId) : k ∈ ModuleId.all := by cases k <;> decide
  simp only [postEach, List.mem_map, List.mem_filter, all, true_and]
  exact exists_congr fun k => and_congr_right fun _ => eq_comm

/-- The command whose event an instruction is. -/
def CmdCode.ofEvent : Instr → Option CmdCode
  | .setSetting => some .setSetting
  | .modifyAttention => some .modifyAttention
  | .setStamp => some .setStamp
  | .setCharge => some .setCharge
  | .markFull => some .markFull
  | .releaseSuspect => some .releaseSuspect
  | .clearShockLog => some .clearShockLog
  | .releaseHolds => some .releaseHolds
  | .clearCounters => some .clearCounters
  | .restoreDefaults => some .restoreDefaults
  | _ => none

theorem CmdCode.eq_event_iff {c : Instr} {code : CmdCode} : c = code.event ↔ CmdCode.ofEvent c = some code := by
  constructor
  · rintro rfl
    cases code <;> rfl
  · intro h
    cases c <;> simp only [CmdCode.ofEvent, reduceCtorEq, Option.some.injEq] at h <;> subst h <;> rfl

theorem mem_frameEvent {s : State} {c : Instr} :
    c ∈ s.frameEvent ↔ ∃ code, CmdCode.ofEvent c = some code ∧ ∃ bytes, s.Carries bytes code := by
  simp only [← CmdCode.eq_event_iff, State.Carries]
  unfold State.frameEvent State.waitingFrame
  rcases s.svc.processing with _ | (⟨bytes, _ | done⟩ | page)
  · simp
  · cases h : checkFrame bytes <;> simp [h, eq_comm]
  · simp
  · simp

/-- What is due at a moment, event by event. -/
theorem mem_dueEvents {s : State} {c : Instr} :
    c ∈ s.dueEvents ↔
      ((s.fe.transfer = none ∧ s.fe.nextPoll ≤ s.now) ∧ c = .pollDue)
      ∨ (s.gauge.nextCurrent ≤ s.now ∧ c = .currentSampleDue)
      ∨ (s.gauge.nextVoltage ≤ s.now ∧ c = .voltageSampleDue)
      ∨ (s.clock.nextSecond ≤ s.now ∧ c = .stampSecond)
      ∨ (s.gauge.nextCopy ≤ s.now ∧ c = .qCopyDue)
      ∨ (s.clock.nextCopy ≤ s.now ∧ c = .stampCopyDue)
      ∨ (∃ k, isOver s.now (s.relay.readBusy.get k) = true ∧ c = .readBusyTimeout k)
      ∨ (∃ k, isOver s.now (s.relay.resetBusy.get k) = true ∧ c = .resetBusyTimeout k)
      ∨ (∃ k, isOver s.now (s.relay.residual.get k) = true ∧ c = .residualBusyTimeout k)
      ∨ (∃ k, s.busyTimeOver k = true ∧ c = .busyTimerExpiry k)
      ∨ (∃ k, s.holdOver k = true ∧ c = .holdLimitExpiry k)
      ∨ (((s.arb.queue ≠ [] ∧ s.busFree = true) ∧ s.arb.gapEnd ≤ s.now) ∧ c = .insertStart)
      ∨ (∃ code, CmdCode.ofEvent c = some code ∧ ∃ bytes, s.Carries bytes code)
      ∨ ((s.svc.processing ≠ none ∧ s.svc.processingBy ≤ s.now) ∧ c = .serviceProcessingEnd)
      ∨ (s.mayDoze = true ∧ c = .dozeEntry) := by
  simp only [State.dueEvents, List.mem_append, mem_postIf, mem_postEach, mem_frameEvent, Bool.and_eq_true,
    decide_eq_true_eq, Option.isNone_iff_eq_none, Bool.not_eq_true', List.isEmpty_eq_false_iff, or_assoc,
    Option.isSome_iff_ne_none]

theorem isOver_iff {now : Nat} {due : Option Nat} : isOver now due = true ↔ ∃ t, due = some t ∧ t ≤ now := by
  cases due <;> simp [isOver]

theorem limitMs_eq (r : SlotRec) : r.limitMs = if r.kind = some .erase then 50 else 10 := by
  unfold SlotRec.limitMs
  rcases r.kind with _ | (_ | _) <;> rfl

theorem busyTimeOver_iff {s : State} {k : ModuleId} :
    s.busyTimeOver k = true ↔
      (s.slotLive k).state = .issued ∧ ∃ start, (s.slotLive k).timerFrom = some start
        ∧ 1000 * (start + ((if (s.slotRec k).kind = some .erase then 50 else 10) + 1 - (s.slotLive k).timerValue)) ≤ s.now := by
  unfold State.busyTimeOver
  rw [← limitMs_eq]
  cases (s.slotLive k).state <;> cases (s.slotLive k).timerFrom <;> simp
  rfl

theorem isWaiting_iff {s : State} {k : ModuleId} :
    s.isWaiting k = true ↔ (s.slotLive k).state = .held ∧ (s.slotLive k).step = some .waiting := by
  simp [State.isWaiting]

theorem holdOver_iff {s : State} {k : ModuleId} :
    s.holdOver k = true ↔
      (s.slotLive k).state = .held ∧ (s.slotLive k).step = some .waiting
        ∧ s.ret.settings.holdLimit < ((s.now / 1000 - (s.slotRec k).holdStart.getD (s.now / 1000) : Nat) : Int) := by
  simp only [State.holdOver, Bool.and_eq_true, decide_eq_true_eq, isWaiting_iff, and_assoc]
  rfl

theorem gapEnd_le_iff {a : Arbiter} {now : Nat} : a.gapEnd ≤ now ↔ ∀ g, a.gapFrom = some g → g + 2 ≤ now := by
  unfold Arbiter.gapEnd
  cases a.gapFrom <;> simp [Config.insertGap]

theorem busFree_iff {s : State} : s.busFree = true ↔ s.relay.seq = none ∧ s.wait = false := by
  simp [State.busFree, Option.isNone_iff_eq_none]

theorem slotIsLive_eq_false {s : State} {k : ModuleId} : s.slotIsLive k = false ↔ (s.slotLive k).state = .free := by
  unfold State.slotIsLive
  cases (s.slotLive k).state <;> simp [SlotState.isLive]

theorem ModuleId.all_iff {p : ModuleId → Bool} : ModuleId.all.all p = true ↔ ∀ k, p k = true := by
  simp only [List.all_eq_true]
  exact ⟨fun h k => h k (by cases k <;> decide), fun h k _ => h k⟩

theorem quiet_iff {s : State} :
    s.quiet = true ↔
      s.doze.dozing = false ∧ s.relay.seq = none ∧ s.svc.processing = none ∧ s.mon.state = .calm
        ∧ (∀ k, (s.slotLive k).state = .free ∧ s.relay.readBusy.get k = none ∧ s.relay.resetBusy.get k = none
          ∧ s.relay.residual.get k = none)
        ∧ s.arb.queue = [] ∧ s.arb.running = none ∧ s.wait = false := by
  simp only [State.quiet, Bool.and_eq_true, ModuleId.all_iff, Bool.not_eq_true', slotIsLive_eq_false,
    Option.isNone_iff_eq_none, List.isEmpty_iff, decide_eq_true_eq, forall_and]
  tauto

/-- A quiet part has its idle time counting from where it was last set to 0 (R188). -/
theorem mayDoze_iff {s : State} :
    s.mayDoze = true ↔
      s.quiet = true ∧ s.ret.settings.dozeDelay ≤ ((min (s.now / 1000 - s.doze.idleFromMs) 65535 : Nat) : Int) := by
  simp only [State.mayDoze, Bool.and_eq_true, decide_eq_true_eq, and_congr_right_iff]
  intro h
  obtain ⟨awake, closed, -⟩ := quiet_iff.1 h
  simp [State.idleMs, awake, closed, State.ms]

/-- Settles O2: the tick posts each event by its own condition, and no two conditions post one event. -/
theorem idleStepIsOneTick : Obligations.IdleStepIsOneTick := by
  refine ⟨fun s h => ⟨fun running => ?_, fun stopped => ?_⟩, fun s => ?_⟩
  · simp [step, h, State.tick, running, State.runTo]
  · unfold step
    rw [h]
    dsimp only
    unfold State.tick
    split
    · exact absurd ‹_› stopped
    · rfl
    · rfl
  · refine ⟨?_, ?_, ?_, ?_, ?_, ?_, fun k => ?_, fun k => ?_, fun k => ?_, fun k => ?_, fun k => ?_, ?insert, fun code => ?event, ?_,
      ?doze, fun c hc => ?only⟩
    case insert =>
      simp only [mem_dueEvents, CmdCode.ofEvent, reduceCtorEq, and_false, and_true, false_and, exists_false, or_false, false_or,
        gapEnd_le_iff, busFree_iff, and_assoc]
    case doze =>
      simp only [mem_dueEvents, CmdCode.ofEvent, reduceCtorEq, and_false, and_true, false_and, exists_false, or_false, false_or,
        mayDoze_iff, quiet_iff, and_assoc]
    case event => cases code <;> simp [mem_dueEvents, CmdCode.event, CmdCode.ofEvent]
    case only =>
      cases h : CmdCode.ofEvent c with
      | some code => exact .inr (.inr ⟨code, CmdCode.eq_event_iff.2 h⟩)
      | none =>
        simp only [mem_dueEvents, h, reduceCtorEq, false_and, exists_false, false_or] at hc
        rcases hc with ⟨-, rfl⟩ | ⟨-, rfl⟩ | ⟨-, rfl⟩ | ⟨-, rfl⟩ | ⟨-, rfl⟩ | ⟨-, rfl⟩ | ⟨k, -, rfl⟩ | ⟨k, -, rfl⟩ | ⟨k, -, rfl⟩
          | ⟨k, -, rfl⟩ | ⟨k, -, rfl⟩ | ⟨-, rfl⟩ | ⟨-, rfl⟩ | ⟨-, rfl⟩ <;> simp
    all_goals
      simp only [mem_dueEvents, CmdCode.ofEvent, reduceCtorEq, and_false, and_true, false_and, exists_false, or_false,
        false_or, Instr.readBusyTimeout.injEq, Instr.resetBusyTimeout.injEq, Instr.residualBusyTimeout.injEq,
        Instr.busyTimerExpiry.injEq, Instr.holdLimitExpiry.injEq, exists_eq_right', isOver_iff, busyTimeOver_iff,
        holdOver_iff]

/-- Settles O10: each part of the reset state is its first value, and the defaults are in range. -/
theorem resetMeetsTheInvariants : Obligations.ResetMeetsTheInvariants :=
  ⟨Settings.defaults_wf, .nil, ⟨Settings.defaults_wf, fun _ => ⟨rfl, by decide⟩⟩, ⟨Nat.zero_le _, .nil, Nat.zero_le _⟩,
    ⟨Nat.zero_le _, .nil, nofun, Nat.zero_le _, Nat.zero_le _⟩, ⟨fun _ => by decide, nofun⟩, ⟨rfl, by decide⟩,
    fun i => by cases i <;> exact Nat.zero_le _⟩

end Sys2Proof.Machine
end

section
/-! PROOFS. Open codes, STATUS, MODULE RESET, SUSPEND and RESUME, the CE# pins and the upstream view (R2 to R19, R188). -/

namespace Sys2Proof.Machine

variable {s : State} {k : ModuleId}

/-! ### Open codes (R2, R19) -/

/-- The end of the open sequence and the start of a command touch different parts. -/
theorem begin_ended (s : State) : s.begin.ended = s.ended.begin := by
  unfold State.ended
  rw [State.begin_relay]
  cases s.relay.seq <;> rfl

theorem begin_nestedEnded (s : State) : s.begin.nestedEnded = s.nestedEnded.begin := by
  unfold State.nestedEnded
  rw [State.begin_relay]
  cases s.relay.nested <;> rfl

theorem openCheck_of_selects (h : s.Selects k) : s.openCheck = .taken k := by
  simp [State.openCheck, h.1, h.2]

/-- An open code that is taken ends the open sequence and opens its own. -/
theorem hearing_openCode (hp : s.phase = .running) (h : s.Selects k) (f : State → ModuleId → State) :
    (s.hearing fun s => s.openCode f) = f s.ended.begin k := by
  have taken : s.begin.openCheck = .taken k := openCheck_of_selects h
  rw [State.hearing_running hp, State.openCode, taken]
  simp only [State.endForOpen_eq, begin_ended]

/-- Settles O11: the open code is taken, and what it opens is the new sequence alone. -/
theorem openCodeOpensASequence : Obligations.OpenCodeOpensASequence := by
  intro s k hp h p hmem
  have opened (kind : SeqKind) :
      (Host.Outcome.next (s.hearing fun s => s.openLatched kind) : Host.Outcome State Fault Refusal) =
        .next (s.ended.begin.setSeq (some (newSeq kind k))) := congrArg _ (hearing_openCode hp h _)
  simp only [List.mem_cons, List.not_mem_nil, or_false] at hmem
  rcases hmem with rfl | rfl | rfl | rfl
  · exact opened .read
  · exact opened .program
  · exact opened .erase
  · exact opened .identify

/-- What the eight open codes do to one that is not taken. -/
structure OpensBy (c : Instr) (s : State) (f : State → State) : Prop where
  exec_eq : exec c s = .next (s.hearing f)
  ignored : ∀ u : State, u.openCheck = .ignored → f u = u
  counted : ∀ u : State, u.openCheck = .counted → f u = u.ignoreOpen

theorem opensBy_openCode {c : Instr} {f : State → ModuleId → State} (h : exec c s = .next (s.hearing fun s => s.openCode f)) :
    OpensBy c s fun s => s.openCode f :=
  ⟨h, fun u hu => by rw [State.openCode, hu], fun u hu => by rw [State.openCode, hu]⟩

theorem exec_opensBy (s : State) {c : Instr}
    (h : c ∈ [Instr.readOpen, .programOpen, .eraseOpen, .identify, .status, .moduleReset, .suspend, .resume]) :
    ∃ f, OpensBy c s f := by
  simp only [List.mem_cons, List.not_mem_nil, or_false] at h
  rcases h with rfl | rfl | rfl | rfl | rfl | rfl | rfl | rfl
  case inr.inr.inr.inr.inl => exact ⟨_, rfl, fun u hu => by rw [hu], fun u hu => by rw [hu]⟩
  all_goals exact ⟨_, opensBy_openCode rfl⟩

theorem openCheck_of_counted (h : (∃ k, s.asserted = [k] ∧ s.wait = true) ∨ 2 ≤ s.asserted.length) :
    s.openCheck = .counted := by
  unfold State.openCheck
  rcases h with ⟨k, one, wait⟩ | several
  · simp [one, wait]
  · split <;> simp_all

/-- Settles O12: the eight codes differ in what they open alone, and none opens anything here. -/
theorem openCodeUnderWaitIsIgnored : Obligations.OpenCodeUnderWaitIsIgnored := by
  intro s c hc
  obtain ⟨f, opens⟩ := exec_opensBy s hc
  rw [opens.exec_eq]
  refine ⟨fun hp h => ?_, fun h => ?_, fun ⟨kind, hp⟩ h => ?_⟩
  · rw [State.hearing_running hp, opens.counted s.begin (openCheck_of_counted h)]
    rfl
  · suffices quiet : s.hearing f = s.begin by
      rw [quiet]
      rfl
    rcases h with none | hp
    · cases hp : s.phase with
      | running => rw [State.hearing_running hp, opens.ignored _ (by simp [State.openCheck, none])]
      | inReset kind =>
        rw [State.hearing_inReset hp, none]
        rfl
      | unpowered => rw [State.hearing_unpowered hp]
    · rw [State.hearing_unpowered hp]
  · rw [State.hearing_inReset hp, if_neg (by simpa using h)]
    rfl

/-! ### STATUS (R2, R8) -/

theorem statusAnswer_ended_congr (s : State) (k : ModuleId) : s.ended.statusAnswer k = s.statusAnswer k := by
  unfold State.ended
  cases s.relay.seq <;> rfl

/-- Only the code that the module is to answer is forwarded (R8). -/
theorem forwardStatus_eq (s : State) (k : ModuleId) :
    s.forwardStatus k =
      { s with
        ports :=
          { s.ports with
            moduleCycles := s.ports.moduleCycles ++ if s.statusAnswer k = .fromModule then [.code k 0x0C] else [] }
        arb := if s.statusAnswer k = .fromModule then { s.arb with gapFrom := none } else s.arb } := by
  unfold State.forwardStatus
  cases s.statusAnswer k <;> simp [State.onPorts, State.onArb, ChannelCode.byte]

theorem nests_iff {q : Seq} (h : s.relay.seq = some q) :
    s.nests k = true ↔ (q.kind = .read ∨ q.kind = .identify) ∧ q.module = k ∧ q.handling ≠ .latching := by
  simp [State.nests, h, and_assoc]

theorem endNested_of_some {a : StatusAnswer} (h : s.relay.nested = some a) :
    s.endNested = (s.onRelay fun r => { r with nested := none, stray := false }).idleZero := by
  rw [State.endNested, h]

/-- The strobe that takes a nested STATUS, which ends with its byte out (R2, R8). -/
theorem strobe_nested {q : Seq} {a : StatusAnswer} {b : Byte} (hp : s.phase = .running) (habs : s.relay.absorb = false)
    (hq : s.relay.seq = some q) (hnest : s.relay.nested = some a) :
    let t : State :=
      { s with
        relay := { s.relay with nested := none, stray := false }
        doze := { s.doze with idleFromMs := s.now / 1000 } }
    (∀ own, a = .byPart own → exec (.dataOutStrobe b) s = .next { t with ports := ⟨[], some own, []⟩ })
    ∧ (a = .fromModule → exec (.dataOutStrobe b) s = .next
      { t with ports := ⟨[.strobe q.module], some b, []⟩, arb := { s.arb with gapFrom := none } }) := by
  have taken : exec (.dataOutStrobe b) s = .next (s.begin.nestedOut q a b) := by
    simp only [exec, execDataOutStrobe, State.serving_running hp, State.begin_relay, habs, hnest, hq]
  rw [taken]
  constructor
  · rintro own rfl
    rw [State.nestedOut, endNested_of_some (s := s.begin.answerStatus q.module (.byPart own) b) hnest]
    rfl
  · rintro rfl
    rw [State.nestedOut, endNested_of_some (s := s.begin.answerStatus q.module .fromModule b) hnest]
    rfl

theorem ended_arb (s : State) : s.ended.arb = s.arb := by
  unfold State.ended
  cases s.relay.seq <;> rfl

/-- Settles O14: the answer is that of the view, before and after the end of a sequence, and its byte out ends the STATUS. -/
theorem statusOpensWithItsAnswer : Obligations.StatusOpensWithItsAnswer := by
  refine ⟨fun s k hp h => ⟨fun outside => ?_, fun q hq hkind hmod hlatch => ?_⟩, fun s q a b hp habs hnest hq => ?_⟩
  · have taken : s.begin.openCheck = .taken k := openCheck_of_selects h
    have apart : s.begin.nests k = false := by
      cases hq : s.relay.seq with
      | none => simp [State.nests, hq]
      | some q =>
        rw [Bool.eq_false_iff]
        intro nests
        obtain ⟨kind, module, handling⟩ := (nests_iff (s := s.begin) hq).1 nests
        rcases outside q hq with ⟨r, i⟩ | m | l
        · exact kind.elim r i
        · exact m module
        · exact handling l
    simp only [exec, execStatus, State.hearing_running hp, taken, State.openStatus, apart, State.endForOpen_eq, begin_ended,
      forwardStatus_eq]
    rw [show s.ended.begin.statusAnswer k = s.statusAnswer k from statusAnswer_ended_congr s k,
      show s.ended.begin.arb = s.arb from ended_arb s]
    rfl
  · have taken : s.begin.openCheck = .taken k := openCheck_of_selects h
    have inside : s.begin.nests k = true := (nests_iff (s := s.begin) hq).2 ⟨hkind, hmod, hlatch⟩
    simp only [exec, execStatus, State.hearing_running hp, taken, State.openStatus, inside, State.endNested_eq,
      begin_nestedEnded, forwardStatus_eq]
    have answer : s.nestedEnded.begin.statusAnswer k = s.statusAnswer k := by
      unfold State.nestedEnded
      cases s.relay.nested <;> rfl
    have arb : s.nestedEnded.begin.arb = s.arb := by
      unfold State.nestedEnded
      cases s.relay.nested <;> rfl
    rw [answer, arb]
    unfold State.nestedEnded
    cases s.relay.nested <;> rfl
  · exact strobe_nested hp habs hq hnest

/-! ### The upstream view (R8, R10, R19) -/

theorem isQueued_iff {kind : InsertKind} :
    s.isQueued k kind = true ↔ ∃ e ∈ s.arb.queue, e.module = k ∧ e.kind = kind := by
  simp [State.isQueued]

theorem isRunning_iff {kind : InsertKind} :
    s.isRunning k kind = true ↔ ∃ e, s.arb.running = some e ∧ e.module = k ∧ e.kind = kind := by
  unfold State.isRunning
  cases s.arb.running <;> simp

theorem checkPending_iff :
    s.checkPending k = true ↔
      (∃ e ∈ s.arb.queue, e.module = k ∧ e.kind = .statusCheck)
        ∨ ∃ e, s.arb.running = some e ∧ e.module = k ∧ e.kind = .statusCheck := by
  simp only [State.checkPending, Bool.or_eq_true, isQueued_iff, isRunning_iff]

theorem slotIsLive_iff : s.slotIsLive k = true ↔ (s.slotLive k).state ∈ [.held, .issued, .suspended] := by
  unfold State.slotIsLive
  cases (s.slotLive k).state <;> decide

theorem slotIsLive_eq_true : s.slotIsLive k = true ↔ (s.slotLive k).state ≠ .free := by
  rw [← Bool.not_eq_false, slotIsLive_eq_false]

theorem present_iff : s.present k = true ↔ k.val ≤ s.straps.modCnt.toNat := decide_eq_true_iff

theorem present_eq_false : s.present k = false ↔ s.straps.modCnt.toNat < k.val := by
  simp [State.present]

theorem wait_iff :
    s.wait = true ↔
      (∃ kind, s.phase = .inReset kind) ∨ s.phase = .running ∧ (s.arb.running ≠ none ∨ s.arb.wakeWait = true) := by
  unfold State.wait
  cases s.phase <;> simp [Option.isSome_iff_ne_none]

/-- Settles O15: each reading is a disjunction of its conditions, and the answer is the first case of R8 that holds. -/
theorem statusAnswerFollowsTheView : Obligations.StatusAnswerFollowsTheView := by
  refine ⟨fun s k => ⟨checkPending_iff, ?view, ?line, wait_iff⟩, fun s k => ⟨fun absent => ?_, fun present => ⟨fun busy => ?_,
    fun free idle => ⟨fun fail => ?_, fun pass => ⟨?_, ?_, ?_, ?_⟩⟩⟩⟩⟩
  case view =>
    simp only [State.viewBusy, Bool.or_eq_true, Bool.and_eq_true, decide_eq_true_eq, slotIsLive_iff, checkPending_iff,
      Option.isSome_iff_ne_none, or_assoc]
  case line => rw [State.rbShowsBusy, Bool.and_eq_true, present_iff]
  · simp [State.statusAnswer, present_eq_false.2 absent, statusByte]
  · have live : (s.slotIsLive k || s.checkPending k) = true := by
      rw [Bool.or_eq_true, slotIsLive_eq_true]
      exact busy
    simp [State.statusAnswer, present_iff.2 present, live, statusByte]
  · simp [State.statusAnswer, present_iff.2 present, slotIsLive_eq_false.2 free, idle, fail, statusByte]
  all_goals
    have here := present_iff.2 present
    have quiet := slotIsLive_eq_false.2 free
    intros
    simp_all [State.statusAnswer, statusByte, Option.isSome_iff_ne_none]

/-! ### MODULE RESET, SUSPEND and RESUME from the drive controller (R4, R12, R15) -/

/-- Slot k with its record and its volatile part written FREE with an outcome, and out of the release queue (R101). -/
def State.slotClosed (s : State) (k : ModuleId) (o : SlotOutcome) : State :=
  { s with
    ret :=
      { s.ret with
        slots := s.ret.slots.set k
          { s.slotRec k with state := .free, last := some o, busyMs := (s.slotLive k).busyMs s.ms } }
    slots := s.slots.set k
      { s.slotLive k with state := .free, step := none, issueMs := none, timerFrom := none, keptReturn := false }
    releaseQueue := s.releaseQueue.filter fun m => decide (m ≠ k) }

/-- An entry request with verdict OPEN handed to the suspect list: dropped by a full one with LIST_FULL raised (R144, R145). -/
def State.requestHanded (s : State) (req : Suspect) : State :=
  let list := addSuspect s.ret.suspects s.ret.overflow req
  { s with
    ret := { s.ret with suspects := list.1, overflow := list.2.1 }
    causes := if list.2.2 then s.causes ||| 128 else s.causes }

theorem handRequest_open (s : State) {req : Suspect} (h : req.verdict = .isOpen) :
    s.handRequest req true = s.requestHanded req := by
  simp only [State.handRequest, State.requestHanded, h, reduceCtorEq, decide_false, Bool.and_false, Bool.false_eq_true,
    if_false, Bool.true_and]
  split <;> rfl

/-- A slot that closes with no reason hands no entry (R102). -/
theorem closeSlot_silent (s : State) (k : ModuleId) {o : SlotOutcome} (h : o = .withdrawn ∨ o = .refused) :
    s.closeSlot k o = s.slotClosed k o := by
  rcases h with rfl | rfl <;> rfl

/-- A slot that closes with a reason of its own hands its entry (R102). -/
theorem closeSlot_handing (s : State) (k : ModuleId) {o : SlotOutcome} {reason : Reason} (hdone : o ≠ .done)
    (h : ∀ exposed, closeReason o exposed = some reason) :
    s.closeSlot k o = (s.slotClosed k o).requestHanded ((s.slotRec k).entry k reason s.clock.stamp) := by
  rw [← handRequest_open _ rfl]
  simp only [State.closeSlot, h, hdone, false_and, if_false]
  rfl

theorem ended_ret (s : State) : s.ended.ret = s.ret := by
  unfold State.ended
  cases s.relay.seq <;> rfl

/-- What the end of a sequence leaves of the relay. -/
theorem ended_relay (s : State) :
    s.ended.relay = { s.relay with absorb := false, stray := false, seq := none, nested := s.ended.relay.nested } := by
  unfold State.ended
  cases h : s.relay.seq with
  | none => simp [← h]
  | some q => rfl

/-- The end of a sequence reaches the relay's sequence, doze control, the counters, the tag engine and the service handler alone. -/
theorem ended_reaches (s : State) :
    ∃ nested idle counters tag svc,
      s.ended =
        { s with
          relay := { s.relay with absorb := false, stray := false, nested := nested, seq := none }
          doze := { s.doze with idleFromMs := idle }
          counters := counters
          tag := tag
          svc := svc } := by
  rcases h : s.relay.seq with _ | q
  · exact ⟨s.relay.nested, s.doze.idleFromMs, s.counters, s.tag, s.svc, by simp only [State.ended, h]⟩
  · exact ⟨_, _, _, _, _, by simp only [State.ended, h]; rfl⟩

theorem resetSlot_free (h : (s.slotLive k).state = .free) : s.resetSlot k = s := by
  rw [State.resetSlot, h]

theorem resetSlot_held (h : (s.slotLive k).state = .held) : s.resetSlot k = s.slotClosed k .withdrawn := by
  rw [State.resetSlot, h]
  exact closeSlot_silent s k (.inl rfl)

theorem resetSlot_atWork (h : (s.slotLive k).state = .issued ∨ (s.slotLive k).state = .suspended) :
    s.resetSlot k = (s.slotClosed k .aborted).requestHanded ((s.slotRec k).entry k .aborted s.clock.stamp) := by
  have aborted := closeSlot_handing s k (o := .aborted) (by decide) fun _ => rfl
  rw [← aborted, State.resetSlot]
  rcases h with h | h <;> rw [h]

/-- A MODULE RESET to a present module, once its slot is dealt with (R15). -/
theorem moduleReset_of_present {u : State} (here : s.present k = true)
    (slot : ((s.clearForClass k).withdraw k).resetSlot k = u) :
    s.moduleReset k =
      { u with
        ports := { u.ports with moduleCycles := u.ports.moduleCycles ++ [.code k 0x0F] }
        arb := { u.arb with gapFrom := none }
        relay :=
          { u.relay with
            readBusy := u.relay.readBusy.set k none
            residual := u.relay.residual.set k none
            resetBusy := u.relay.resetBusy.set k (some (s.now + 5000)) }
        doze := { u.doze with idleFromMs := u.now / 1000 } } := by
  rw [State.moduleReset, here, slot, Config.resetBusyLimit]
  rfl

/-- Settles O16: the slot closes by its state, and the rest is done to a present module alone. -/
theorem moduleResetStartsItsBusyPeriod : Obligations.ModuleResetStartsItsBusyPeriod := by
  intro s k hp h
  have taken : exec .moduleReset s = .next (s.ended.begin.moduleReset k) := congrArg _ (hearing_openCode hp h _)
  obtain ⟨nested, idle, counters, tag, svc, ended⟩ := ended_reaches s
  have straps : s.ended.begin.straps = s.straps := ended ▸ rfl
  have slot : ((s.ended.begin.clearForClass k).withdraw k).slotLive k = s.slotLive k := ended ▸ rfl
  rw [taken]
  refine ⟨fun here => ⟨fun free => ?_, fun held => ?_, fun work => ?_⟩, fun absent => ?_⟩
  · rw [moduleReset_of_present (present_iff.2 (straps ▸ here)) (resetSlot_free (slot ▸ free)), ended]
    rfl
  · rw [moduleReset_of_present (present_iff.2 (straps ▸ here)) (resetSlot_held (slot ▸ held)), ended]
    rfl
  · rw [moduleReset_of_present (present_iff.2 (straps ▸ here)) (resetSlot_atWork (slot ▸ work)), ended]
    rfl
  · rw [State.moduleReset, if_neg (Bool.eq_false_iff.1 (present_eq_false.2 (straps ▸ absent))), ended]
    rfl

/-- Classifying a sequence to a module that is present (R11, R18). -/
theorem clearForClass_eq (s : State) (k : ModuleId) :
    s.clearForClass k =
      { s with
        relay :=
          { s.relay with
            readyFail := if s.relay.stuck.get k = false then s.relay.readyFail.set k false else s.relay.readyFail
            serviceAnswer := if k = .m0 then false else s.relay.serviceAnswer } } := by
  unfold State.clearForClass
  cases h : s.relay.stuck.get k <;> simp only [State.onRelay, h] <;> rfl

/-- Settles O17: the code is discarded by what it does to the sequence alone. -/
theorem suspendAndResumeAreDiscarded : Obligations.SuspendAndResumeAreDiscarded := by
  intro s k hp h c hc
  have taken : exec c s = .next (s.ended.begin.discardCode k) := by
    simp only [List.mem_cons, List.not_mem_nil, or_false] at hc
    rcases hc with rfl | rfl <;> exact congrArg _ (hearing_openCode hp h _)
  obtain ⟨nested, idle, counters, tag, svc, ended⟩ := ended_reaches s
  have straps : s.ended.begin.straps = s.straps := ended ▸ rfl
  rw [taken, State.discardCode]
  by_cases here : k.val ≤ s.straps.modCnt.toNat
  · rw [if_pos (present_iff.2 (straps ▸ here)), clearForClass_eq, ended]
    simp only [here, true_and]
    rfl
  · have other : k ≠ .m0 := fun first => here (first ▸ Nat.zero_le _)
    rw [if_neg (Bool.eq_false_iff.1 (present_eq_false.2 (straps ▸ not_le.1 here))), if_neg fun h => here h.1, if_neg other,
      ended]
    rfl

/-! ### The CE# pins (R188, R190) -/

/-- A change of rate restarts both due times and refills the window with its average (R45, R56, R107). -/
theorem changeRate_eq (s : State) (poll current : Nat) :
    s.changeRate poll current =
      { s with
        fe :=
          { s.fe with
            pollPeriod := poll
            nextPoll := s.now + poll
            window := List.replicate s.fe.window.length (s.fe.sum / s.fe.window.length)
            sum := s.fe.sum / s.fe.window.length * s.fe.window.length }
        gauge := { s.gauge with currentPeriod := current, nextCurrent := s.now + current } } := rfl

/-- Settles O18: by the doze mode. -/
theorem chipEnableWakesThePart : Obligations.ChipEnableWakesThePart := by
  intro s k hp
  refine ⟨fun active => ?_, fun dozing => ?_⟩
  · simp only [exec, execCeAssert, State.serving_running hp, State.begin_doze, active, Bool.false_eq_true, if_false]
    rw [← active]
    rfl
  · simp only [exec, execCeAssert, State.serving_running hp, State.begin_doze, dozing, if_true, State.wake, Config.pollActive,
      Config.currentActive, changeRate_eq]
    rfl

/-- What the end of a sequence does to the relay and to doze control, once it is left. -/
theorem endSequence_of_leave {q : Seq} {u : State} (hq : s.relay.seq = some q) (hu : s.leaveSequence q = u) :
    s.endSequence =
      { u with
        relay := { u.relay with seq := none, nested := none, stray := false }
        doze := { u.doze with idleFromMs := u.now / 1000 } } := by
  rw [State.endSequence, hq, ← hu]
  rfl

/-- The end of a read's check at the end of its sequence (R39). -/
theorem leaveSequence_read {q : Seq} {r : TagRead} (hh : q.handling = .passed) (hk : q.kind = .read)
    (hr : s.tag.read = some r) :
    s.leaveSequence q =
      { s with
        tag := { s.tag with read := none }
        counters :=
          if r.settled then s.counters else { s.counters with skipped := min (s.counters.skipped + 1) 65535 } } := by
  rw [State.leaveSequence, hh, hk]
  simp only [State.readEnds_of_some s hr]
  cases r.settled <;> rfl

/-- A sequence that leaves nothing behind in the tag engine and the service handler. -/
theorem leaveSequence_plain {q : Seq} (h : q.handling ∈ [Handling.latching, .discarded, .refused, .absent, .svcBlank]) :
    s.leaveSequence q = s := by
  simp only [List.mem_cons, List.not_mem_nil, or_false] at h
  rw [State.leaveSequence]
  rcases h with h | h | h | h | h <;> rw [h]

/-- Settles O19: what the sequence leaves behind is told by its handling. -/
theorem chipDisableEndsTheSequence : Obligations.ChipDisableEndsTheSequence := by
  intro s k hp
  constructor
  · intro apart
    rcases hq : s.relay.seq with _ | q
    · simp only [exec, execCeDeassert, State.serving_running hp, State.begin_relay, hq]
      rfl
    · have other : ¬(q.module = k ∧ (q.kind = .read ∨ q.kind = .identify)) := fun ⟨module, kind⟩ =>
        (apart q hq).elim (fun m => m module) fun ⟨r, i⟩ => kind.elim r i
      simp only [exec, execCeDeassert, State.serving_running hp, State.begin_relay, hq, if_neg other]
      rfl
  · intro q hq hm hk
    have taken : exec (.ceDeassert k) s = .next (s.begin.endSequence.setCe k false) := by
      simp only [exec, execCeDeassert, State.serving_running hp, State.begin_relay, hq, hm, hk, and_self, if_true]
    rw [taken]
    have ends {u : State} := endSequence_of_leave (s := s.begin) (u := u) hq
    refine ⟨fun kind passed => ?_, fun r kind passed hr => ?_, fun plain => ?_, fun p column report => ?_⟩
    · rw [ends (u := s.begin) (by rw [State.leaveSequence, passed, kind])]
      rfl
    · rw [ends (leaveSequence_read passed kind hr)]
      rfl
    · rw [ends (leaveSequence_plain plain)]
      rfl
    · rw [ends (u := s.begin.onSvc fun v => { v with snapshot := none }) (by rw [State.leaveSequence, report])]
      rfl

end Sys2Proof.Machine
end

section
/-! PROOFS. The address phase: latching, classification and what each class of sequence begins (R3, R4, R17, R28, R35). -/

namespace Sys2Proof.Machine

variable {s : State} {q : Seq}

/-! ### Classification, row by row of R4 -/

theorem classify_absent (h : s.present q.module = false) : s.classify q = s.setSeq (some { q with handling := .absent }) := by
  rw [State.classify, h]
  rfl

theorem classify_busy (h : s.present q.module = true) (busy : (s.clearForClass q.module).viewBusy q.module = true) :
    s.classify q = ((s.clearForClass q.module).count .protocol).setSeq (some { q with handling := .discarded }) := by
  simp only [State.classify, h, busy, if_true]

theorem classify_service (h : s.present q.module = true) (busy : (s.clearForClass q.module).viewBusy q.module = false)
    (service : s.isService q = true) : s.classify q = (s.clearForClass q.module).serviceSeq q := by
  have service : (s.clearForClass q.module).isService q = true := service
  simp only [State.classify, h, busy, service, if_true, Bool.false_eq_true, if_false]

theorem classify_other (h : s.present q.module = true) (busy : (s.clearForClass q.module).viewBusy q.module = false)
    (service : s.isService q = false) :
    s.classify q =
      if s.relay.stuck.get q.module then (s.clearForClass q.module).refuseSeq q else (s.clearForClass q.module).passSeq q := by
  have service : (s.clearForClass q.module).isService q = false := service
  have health : (s.clearForClass q.module).relay.stuck = s.relay.stuck := rfl
  simp only [State.classify, h, busy, service, health, if_true, Bool.false_eq_true, if_false]

theorem isService_iff :
    s.isService q = true ↔
      q.module = .m0 ∧ q.kind ≠ .identify ∧ q.addr.block = BitVec.ofNat 11 (2047 - s.straps.svcSel.toNat) := by
  simp only [State.isService, Bool.and_eq_true, decide_eq_true_eq, and_assoc]
  rfl

theorem serviceSeq_program (hk : q.kind = .program) :
    s.serviceSeq q =
      if q.addr.page = 0 then
        (s.onSvc fun v => { v with frame := some { bytes := List.replicate 18 0xFF, pos := q.addr.column } }).setSeq
          (some { q with handling := .svcFrame })
      else s.refuseSeq q := by
  rw [State.serviceSeq, hk]

theorem serviceSeq_erase (hk : q.kind = .erase) : s.serviceSeq q = s.refuseSeq q := by
  rw [State.serviceSeq, hk]

theorem reportPage_iff (p : BitVec 7) : (1 ≤ p.toNat ∧ p.toNat ≤ 7) ↔ p ∈ [(1 : BitVec 7), 2, 3, 4, 5, 6, 7] := by
  revert p
  decide

theorem serviceSeq_read (hk : q.kind = .read) :
    s.serviceSeq q =
      if q.addr.page ∈ [(1 : BitVec 7), 2, 3, 4, 5, 6, 7] then
        s.setSeq (some { q with handling := .svcReport q.addr.page q.addr.column })
      else s.setSeq (some { q with handling := .svcBlank }) := by
  rw [State.serviceSeq, hk]
  simp only [reportPage_iff]

/-! ### The cycles forwarded (R196) -/

/-- The last of an erase's cycles, or of a page's, is the high one of its row. -/
theorem sentCycles_row {kind : SeqKind} {bs : List Byte} (b : Byte) (hk : kind ∈ [SeqKind.read, .program, .erase])
    (h : bs.length + 1 = kind.addressCycles) : sentCycles kind (bs ++ [b]) = bs ++ [b &&& 0x03] := by
  simp only [List.mem_cons, List.not_mem_nil, or_false] at hk
  rcases hk with rfl | rfl | rfl
  case inr.inr =>
    match bs, h with
    | [_, _], _ => rfl
  all_goals
    match bs, h with
    | [_, _, _, _], _ => rfl

theorem sentCycles_identify (bs : List Byte) : sentCycles .identify bs = bs := by
  cases bs <;> rfl

theorem cycles_of_sent {kind : SeqKind} {sent : List Byte} (hk : q.kind = kind) (h : sentCycles kind q.latched = sent) :
    q.cycles = .code q.module kind.openCode.byte :: sent.map fun b => .addr q.module b := by
  rw [Seq.cycles, hk, h]

/-! ### A sequence passed through (R4, R28, R35) -/

theorem passSeq_plain (hk : q.kind = .identify ∨ q.kind = .erase) :
    s.passSeq q = (s.forward q.cycles).setSeq (some { q with handling := .passed }) := by
  rw [State.passSeq]
  rcases hk with hk | hk <;> rw [hk]

theorem passSeq_read (hk : q.kind = .read) :
    s.passSeq q =
      ((s.forward q.cycles).setSeq (some { q with handling := .passed })).setRead (some (engageRead q.module q.addr)) := by
  rw [State.passSeq, hk]

theorem engageProgram_eq (w : Nat) (k : ModuleId) (a : LatchedAddr) :
    engageProgram w k a =
      { module := k, block := a.block, page := a.page, pos := a.column, crc := 0xFFFFFFFF,
        tagged := decide (a.column = 0 ∧ w ≠ 0), tag := none, writeSeq := none } := by
  rw [engageProgram, Bool.decide_and]
  rfl

theorem passSeq_program (hk : q.kind = .program) :
    s.passSeq q =
      ((s.forward q.cycles).setSeq (some { q with handling := .passed })).setProgram
        (some (engageProgram s.ret.writeSeq q.module q.addr)) := by
  rw [State.passSeq, hk]

/-! ### The address phase -/

/-- A sequence once an address cycle more is latched. -/
abbrev Seq.latch (q : Seq) (b : Byte) : Seq := { q with latched := q.latched ++ [b] }

theorem takeAddress_ignored (h : s.relay.absorb = true ∨ s.relay.nested ≠ none ∨ s.relay.seq = none
      ∨ ∃ q, s.relay.seq = some q ∧ q.handling ≠ .latching) (b : Byte) : s.takeAddress b = s := by
  unfold State.takeAddress
  split
  case h_1 q absorb nested seq =>
    rcases h with h | h | h | ⟨q', h, other⟩
    · exact absurd (absorb.symm.trans h) Bool.false_ne_true
    · exact absurd nested h
    · cases seq.symm.trans h
    · obtain rfl : q = q' := Option.some.inj (seq.symm.trans h)
      rw [if_neg other]
  case h_2 => rfl

theorem takeAddress_latching (h : s.InSequence q) (hl : q.handling = .latching) (b : Byte) :
    s.takeAddress b =
      if q.kind.addressCycles ≤ q.latched.length + 1 then s.latchedAll (q.latch b)
      else s.setSeq (some (q.latch b)) := by
  obtain ⟨absorb, nested, seq⟩ := h
  have length : (q.latch b).latched.length = q.latched.length + 1 := List.length_append
  rw [State.takeAddress, absorb, nested, seq, ← length]
  exact if_pos hl

theorem latchedAll_discarded (h : 4128 ≤ q.addr.column) :
    s.latchedAll q = (s.count .protocol).setSeq (some { q with handling := .discarded }) :=
  if_neg (Nat.not_lt.2 h)

theorem latchedAll_classified (h : q.addr.column < 4128) : s.latchedAll q = s.classify q :=
  if_pos h

theorem addr_of_page {c0 c1 r0 r1 b : Byte} (hl : q.latched = [c0, c1, r0, r1] ++ [b]) (hk : q.kind = .read ∨ q.kind = .program) :
    q.addr =
      { column := c1.toNat * 256 + c0.toNat
        block := BitVec.ofNat 11 ((b.toNat * 65536 + r1.toNat * 256 + r0.toNat) / 128)
        page := BitVec.ofNat 7 (b.toNat * 65536 + r1.toNat * 256 + r0.toNat) } := by
  rw [Seq.addr, hl, ← columnOf_toNat, ← rowBlock_rowOf, ← rowPage_rowOf]
  rcases hk with hk | hk <;> rw [hk] <;> rfl

theorem addr_of_erase {r0 r1 b : Byte} (hl : q.latched = [r0, r1] ++ [b]) (hk : q.kind = .erase) :
    q.addr =
      { column := 0
        block := BitVec.ofNat 11 ((b.toNat * 65536 + r1.toNat * 256 + r0.toNat) / 128)
        page := BitVec.ofNat 7 (b.toNat * 65536 + r1.toNat * 256 + r0.toNat) } := by
  rw [Seq.addr, hl, hk, ← rowBlock_rowOf, ← rowPage_rowOf]
  rfl

/-- Settles O13: the rows of R4 in their order, after the column's own check. -/
theorem addressCyclesLatchAndClassify : Obligations.AddressCyclesLatchAndClassify := by
  refine ⟨fun s b hp other => ?_, fun s q b hp open_ hl => ?_⟩
  · have taken : exec (.addressCycle b) s = .next (s.begin.takeAddress b) := congrArg _ (State.serving_running hp _)
    rw [taken, takeAddress_ignored (s := s.begin) other]
    rfl
  · have taken : exec (.addressCycle b) s = .next (s.begin.takeAddress b) := congrArg _ (State.serving_running hp _)
    rw [taken, takeAddress_latching (s := s.begin) open_ hl]
    refine ⟨fun more => ?_, fun c0 c1 r0 r1 hbytes hk => ⟨?_, fun beyond => ?_⟩, fun r0 r1 hbytes hk => ?_, fun whole inPage => ?_⟩
    · rw [if_neg (Nat.not_le.2 more)]
      rfl
    · exact addr_of_page (q := q.latch b) (congrArg (· ++ [b]) hbytes) hk
    · have addr := addr_of_page (q := q.latch b) (congrArg (· ++ [b]) hbytes) hk
      have last : q.kind.addressCycles ≤ q.latched.length + 1 := by rcases hk with hk | hk <;> rw [hk, hbytes] <;> exact le_rfl
      rw [if_pos last, latchedAll_discarded (by rw [addr]; exact beyond)]
      rfl
    · exact addr_of_erase (q := q.latch b) (congrArg (· ++ [b]) hbytes) hk
    · rw [if_pos whole.ge, latchedAll_classified inPage]
      refine ⟨fun absent => ?_, fun present => ⟨fun busy => ?_, fun free block => ?_, fun free other => ?_⟩⟩
      · rw [classify_absent (s := s.begin) (q := q.latch b) (present_eq_false.2 absent)]
        rfl
      all_goals
        have here : s.begin.present (q.latch b).module = true := present_iff.2 present
      · rw [classify_busy here busy]
        rfl
      · rw [classify_service here free (isService_iff.2 block)]
        refine ⟨fun hk page => ?_, fun hk page => ?_, fun hk => ?_, fun hk page => ?_, fun hk page => ?_⟩
        · rw [serviceSeq_program (q := q.latch b) hk, if_pos page]
          rfl
        · rw [serviceSeq_program (q := q.latch b) hk, if_neg page]
          rfl
        · rw [serviceSeq_erase (q := q.latch b) hk]
          rfl
        · rw [serviceSeq_read (q := q.latch b) hk, if_pos page]
          rfl
        · rw [serviceSeq_read (q := q.latch b) hk, if_neg page]
          rfl
      · rw [classify_other here free (Bool.eq_false_iff.2 fun h => other (isService_iff.1 h))]
        refine ⟨fun stuck => ?_, fun healthy => ⟨fun hk => ?_, fun hk => ?_, fun hk => ?_, fun hk => ?_⟩⟩
        · rw [if_pos (show s.begin.relay.stuck.get (q.latch b).module = true from stuck)]
          rfl
        all_goals rw [if_neg (show ¬s.begin.relay.stuck.get (q.latch b).module = true from Bool.eq_false_iff.1 healthy)]
        · rw [passSeq_plain (q := q.latch b) (.inl hk), cycles_of_sent (q := q.latch b) hk (sentCycles_identify _)]
          rfl
        · rw [passSeq_plain (q := q.latch b) (.inr hk), cycles_of_sent (q := q.latch b) hk (sentCycles_row b (by decide) (hk ▸ whole))]
          rfl
        · rw [passSeq_read (q := q.latch b) hk, cycles_of_sent (q := q.latch b) hk (sentCycles_row b (by decide) (hk ▸ whole))]
          rfl
        · rw [passSeq_program (q := q.latch b) hk, cycles_of_sent (q := q.latch b) hk (sentCycles_row b (by decide) (hk ▸ whole))]
          rw [engageProgram_eq]
          rfl

end Sys2Proof.Machine
end

section
/-! PROOFS. COLUMN MOVE, data bytes, codes without a place and the close codes outside a confirm (R3 to R7, R29 to R31, R164). -/

namespace Sys2Proof.Machine

variable {s : State} {q : Seq} {col : BitVec 16}

/-! ### What ends a nested STATUS -/

/-- The end of a nested STATUS reaches the stray mark, the nested answer and the idle time alone. -/
theorem nestedEnded_reaches (s : State) :
    ∃ stray idle,
      s.nestedEnded =
        { s with
          relay := { s.relay with nested := none, stray := stray }
          doze := { s.doze with idleFromMs := idle } } := by
  rcases h : s.relay.nested with _ | a
  · exact ⟨s.relay.stray, s.doze.idleFromMs, by simp only [State.nestedEnded, h]; rw [← h]⟩
  · exact ⟨_, _, by simp only [State.nestedEnded, h]; rfl⟩

/-! ### COLUMN MOVE (R5, R6, R31, R37) -/

theorem columnMoveCycles_eq (k : ModuleId) (col : BitVec 16) :
    columnMoveCycles k col =
      [.code k 0x0A, .addr k (BitVec.ofNat 8 col.toNat), .addr k (BitVec.ofNat 8 (col.toNat / 256))] := by
  have low : col.truncate 8 = BitVec.ofNat 8 col.toNat := BitVec.eq_of_toNat_eq (by simp)
  have high : col.extractLsb' 8 8 = BitVec.ofNat 8 (col.toNat / 256) :=
    BitVec.eq_of_toNat_eq (by simp [BitVec.extractLsb'_toNat, Nat.shiftRight_eq_div_pow])
  rw [columnMoveCycles, low, high]
  rfl

theorem columnMove_program (habs : s.relay.absorb = false) (hq : s.relay.seq = some q) (hl : q.handling ≠ .latching)
    (hk : q.kind = .program) : s.columnMove col = s.nestedEnded.moveProgram q col := by
  rw [State.columnMove, habs, hq, ← State.endNested_eq]
  simp only [hl, hk, if_false]

theorem columnMove_read (habs : s.relay.absorb = false) (hq : s.relay.seq = some q) (hl : q.handling ≠ .latching)
    (hk : q.kind = .read) : s.columnMove col = s.nestedEnded.moveRead q col := by
  rw [State.columnMove, habs, hq, ← State.endNested_eq]
  simp only [hl, hk, if_false]

theorem moveProgram_passed {p : TagProgram} (hh : q.handling = .passed) (hp : s.tag.program = some p) (hc : col.toNat < 4128) :
    s.moveProgram q col =
      { s.forward (columnMoveCycles q.module col) with tag := { s.tag with program := some (p.moveTo col.toNat) } } := by
  rw [State.moveProgram, hh]
  refine (if_pos hc).trans ?_
  rw [State.onTag]
  have program : (s.forward (columnMoveCycles q.module col)).tag.program = some p := hp
  rw [program]
  rfl

theorem moveProgram_frame {f : FrameBuf} (hh : q.handling = .svcFrame) (hf : s.svc.frame = some f) (hc : col.toNat < 4128) :
    s.moveProgram q col = { s with svc := { s.svc with frame := some { f with pos := col.toNat } } } := by
  rw [State.moveProgram, hh]
  refine (if_pos hc).trans ?_
  rw [State.onSvc, hf]
  rfl

theorem moveProgram_beyond (hh : q.handling = .passed ∨ q.handling = .svcFrame) (hc : 4128 ≤ col.toNat) :
    s.moveProgram q col = s.count .protocol := by
  rw [State.moveProgram]
  rcases hh with hh | hh <;> rw [hh] <;> exact if_neg (Nat.not_lt.2 hc)

theorem loseOrder_of_some {r : TagRead} (hr : s.tag.read = some r) :
    s.loseOrder =
      { s with
        tag :=
          { s.tag with
            read := some (if r.settled then r else { r with inOrder := false, crc := 0xFFFFFFFF, captured := [] }) } } := by
  rw [State.loseOrder, hr]
  cases h : r.settled with
  | true => simp only [h, if_true, ← hr]
  | false => simp only [h, Bool.false_eq_true, if_false]; rfl

theorem moveRead_busy (hh : q.handling = .passed) (hc : q.closeTaken = true) (hb : s.relay.readBusy.get q.module ≠ none) :
    s.moveRead q col = s.loseOrder.countOnce q := by
  rw [State.moveRead, hh]
  exact if_pos ⟨hc, Option.isSome_iff_ne_none.2 hb⟩

theorem moveRead_open (hh : q.handling = .passed) (hb : q.closeTaken = false ∨ s.relay.readBusy.get q.module = none) :
    s.moveRead q col =
      if col.toNat < 4128 then (s.forward (columnMoveCycles q.module col)).loseOrder else s.count .protocol := by
  rw [State.moveRead, hh]
  refine if_neg fun ⟨closed, busy⟩ => ?_
  rcases hb with h | h
  · exact absurd (h.symm.trans closed) Bool.false_ne_true
  · exact Option.isSome_iff_ne_none.1 busy h

theorem moveRead_report {p : BitVec 7} {column : Nat} (hh : q.handling = .svcReport p column) :
    s.moveRead q col =
      if col.toNat < 4128 then s.setSeq (some { q with handling := .svcReport p col.toNat }) else s.count .protocol := by
  rw [State.moveRead, hh]
  rfl

theorem moveRead_blank (hh : q.handling = .svcBlank) :
    s.moveRead q col = if col.toNat < 4128 then s else s.count .protocol := by
  rw [State.moveRead, hh]
  rfl

/-- A discarded, refused or absent sequence absorbs a COLUMN MOVE (R4, R12). -/
theorem move_absorbed (h : q.handling ∈ [Handling.discarded, .refused, .absent]) :
    s.moveProgram q col = s ∧ s.moveRead q col = s := by
  simp only [List.mem_cons, List.not_mem_nil, or_false] at h
  rw [State.moveProgram, State.moveRead]
  rcases h with h | h | h <;> rw [h] <;> exact ⟨rfl, rfl⟩

/-- Settles O20: the sequence's handling says what the move does, once a nested STATUS has ended. -/
theorem columnMoveUntagsTheProgram : Obligations.ColumnMoveUntagsTheProgram := by
  intro s q col hp habs hq
  obtain ⟨stray, idle, ended⟩ := nestedEnded_reaches s
  have tag : s.nestedEnded.begin.tag = s.tag := ended ▸ rfl
  have svc : s.nestedEnded.begin.svc = s.svc := ended ▸ rfl
  have busy : s.nestedEnded.begin.relay.readBusy = s.relay.readBusy := ended ▸ rfl
  have seq : s.nestedEnded.begin.relay.seq = some q := ended ▸ hq
  have taken : exec (.columnMove col) s = .next (s.begin.columnMove col) := congrArg _ (State.serving_running hp _)
  have inProgram (hl : q.handling ≠ .latching) (hk : q.kind = .program) :
      exec (.columnMove col) s = .next (s.nestedEnded.begin.moveProgram q col) := by
    rw [taken, columnMove_program (s := s.begin) habs hq hl hk, begin_nestedEnded]
  have inRead (hl : q.handling ≠ .latching) (hk : q.kind = .read) :
      exec (.columnMove col) s = .next (s.nestedEnded.begin.moveRead q col) := by
    rw [taken, columnMove_read (s := s.begin) habs hq hl hk, begin_nestedEnded]
  refine ⟨fun hk => ⟨fun p hh hp hc => ?_, fun f hh hf hc => ?_, fun hh hc => ?_⟩, fun hk => ⟨fun r hh hr => ⟨fun hc hb => ?_,
    fun hb => ⟨fun hc => ?_, fun hc => ?_⟩⟩, fun p column hh => ⟨fun hc => ?_, fun hc => ?_⟩,
    fun hh => ⟨fun hc => ?_, fun hc => ?_⟩⟩, fun hk hh => ?_⟩
  · rw [inProgram (by rw [hh]; nofun) hk, moveProgram_passed (s := s.nestedEnded.begin) hh (tag ▸ hp) hc, columnMoveCycles_eq,
      ended]
    rfl
  · rw [inProgram (by rw [hh]; nofun) hk, moveProgram_frame (s := s.nestedEnded.begin) hh (svc ▸ hf) hc, ended]
    rfl
  · rw [inProgram (by rcases hh with hh | hh <;> rw [hh] <;> nofun) hk, moveProgram_beyond hh hc, ended]
    rfl
  · have seq' : s.nestedEnded.begin.loseOrder.relay.seq = some q := by
      rw [loseOrder_of_some (s := s.nestedEnded.begin) (r := r) (tag ▸ hr)]
      exact seq
    rw [inRead (by rw [hh]; nofun) hk, moveRead_busy (s := s.nestedEnded.begin) hh hc (busy ▸ hb), State.countOnce_eq _ seq',
      loseOrder_of_some (s := s.nestedEnded.begin) (r := r) (tag ▸ hr), ended]
    rfl
  · rw [inRead (by rw [hh]; nofun) hk, moveRead_open (s := s.nestedEnded.begin) hh (busy ▸ hb), if_pos hc, columnMoveCycles_eq,
      loseOrder_of_some (r := r) (by exact tag ▸ hr), ended]
    rfl
  · rw [inRead (by rw [hh]; nofun) hk, moveRead_open (s := s.nestedEnded.begin) hh (busy ▸ hb), if_neg (Nat.not_lt.2 hc), ended]
    rfl
  · rw [inRead (by rw [hh]; nofun) hk, moveRead_report hh, if_pos hc, ended]
    rfl
  · rw [inRead (by rw [hh]; nofun) hk, moveRead_report hh, if_neg (Nat.not_lt.2 hc), ended]
    rfl
  · rw [inRead (by rw [hh]; nofun) hk, moveRead_blank hh, if_pos hc, ended]
    rfl
  · rw [inRead (by rw [hh]; nofun) hk, moveRead_blank hh, if_neg (Nat.not_lt.2 hc), ended]
    rfl
  · have past : q.handling ≠ .latching := fun h => by rw [h] at hh; exact absurd hh (by decide)
    rcases hk with hk | hk
    · rw [inProgram past hk, (move_absorbed hh).1]
      rfl
    · rw [inRead past hk, (move_absorbed hh).2]
      rfl

end Sys2Proof.Machine
end

section
/-! PROOFS. Data bytes of a sequence and the page tag: the check codes shift by shift, the tag byte by byte and its reading back
(R24 to R32, R38, R164, R197). -/

namespace Sys2Proof.Machine

variable {s : State} {q : Seq} {p : TagProgram} {b : Byte}

/-! ### Data bytes (R3, R6, R29, R30, R164) -/

theorem exec_dataIn (hp : s.phase = .running) (h : s.InSequence q) (b : Byte) :
    exec (.dataInCycle b) s = .next (s.begin.dataIn q b) := by
  obtain ⟨absorb, nested, seq⟩ := h
  simp only [exec, execDataInCycle, State.serving_running hp, State.begin_relay, absorb, nested, seq]

theorem dataIn_program (hh : q.handling = .passed) (hk : q.kind = .program) (ht : s.tag.program = some p) :
    s.dataIn q b = if p.pos < 4128 then s.streamByte p b else s.countOnce q := by
  rw [State.dataIn, hh, hk, ht]
  rfl

theorem dataIn_frame {f : FrameBuf} (hh : q.handling = .svcFrame) (hf : s.svc.frame = some f) :
    s.dataIn q b =
      if f.pos < 4128 then s.setFrame { bytes := if f.pos < 18 then f.bytes.set f.pos b else f.bytes, pos := f.pos + 1 }
      else s.countOnce q := by
  rw [State.dataIn, hh, hf]
  rfl

theorem dataIn_absorbed (h : q.handling ∈ [Handling.discarded, .refused, .absent]) : s.dataIn q b = s := by
  simp only [List.mem_cons, List.not_mem_nil, or_false] at h
  rw [State.dataIn]
  rcases h with h | h | h <;> rw [h]

theorem dataIn_stray (h : q.handling = .passed ∧ q.kind ≠ .program ∨ q.handling = .svcBlank
      ∨ ∃ p column, q.handling = .svcReport p column) : s.dataIn q b = s.strayCycle := by
  rw [State.dataIn]
  rcases h with ⟨passed, other⟩ | blank | ⟨p, column, report⟩
  · rw [passed]
    cases hk : q.kind with
    | program => exact absurd hk other
    | read => rfl
    | erase => rfl
    | identify => rfl
    | status => rfl
  · rw [blank]
  · rw [report]

/-- A data byte of a tagged program before column 4095 (R29). -/
theorem streamByte_data (ht : p.tagged = true) (h : p.pos < 4095) :
    s.streamByte p b = (s.forward [.data p.module b]).setProgram (some { p with crc := crc32Byte p.crc b, pos := p.pos + 1 }) := by
  have data : p.pos < Config.dataColumns := Nat.lt_of_lt_of_le h (by decide)
  have before : p.pos + 1 ≠ Config.dataColumns := by
    have : Config.dataColumns = 4096 := rfl
    omega
  simp only [State.streamByte, ht, data, before, if_true, if_false]

/-- The data byte of column 4095 of a tagged program (R27, R29). -/
theorem streamByte_last (ht : p.tagged = true) (h : p.pos = 4095) :
    s.streamByte p b =
      let r := (s.forward [.data p.module b]).buildTag { p with crc := crc32Byte p.crc b, pos := p.pos + 1 }
      r.1.setProgram (some r.2) := by
  have data : p.pos < Config.dataColumns := by rw [h]; decide
  have last : p.pos + 1 = Config.dataColumns := by rw [h]; rfl
  simp only [State.streamByte, ht, data, last, if_true]

/-- A data byte in a tag column of a tagged program (R30). -/
theorem streamByte_tag (ht : p.tagged = true) (h : 4096 ≤ p.pos) :
    s.streamByte p b = (s.forward [.data p.module p.tagByte]).setProgram (some { p with pos := p.pos + 1 }) := by
  have tag : ¬p.pos < Config.dataColumns := Nat.not_lt.2 h
  simp only [State.streamByte, ht, tag, if_true, if_false]

theorem streamByte_untagged (ht : p.tagged = false) :
    s.streamByte p b = (s.forward [.data p.module b]).setProgram (some { p with pos := p.pos + 1 }) := by
  simp only [State.streamByte, ht, Bool.false_eq_true, if_false]

/-- Settles O21: by the handling of the sequence, and in a program by its tag and position. -/
theorem dataByteIsForwardedOrCaptured : Obligations.DataByteIsForwardedOrCaptured := by
  intro s b hp
  refine ⟨fun absorb => ?_, fun absorb none => ?_, fun q h => ⟨fun p hk hh ht => ⟨fun tagged pos => ?_, fun tagged pos => ?_,
    fun pos => ?_⟩, fun f hh hf => ⟨fun pos => ?_, fun pos => ?_⟩, fun hh => ?_, fun hh => ?_, fun hh => ?_⟩⟩
  · simp only [exec, execDataInCycle, State.serving_running hp, State.begin_relay, absorb]
    rfl
  · have taken : exec (.dataInCycle b) s = .next s.begin.strayCycle := by
      simp only [exec, execDataInCycle, State.serving_running hp, State.begin_relay, absorb]
      split
      · exact absurd ‹_› Bool.false_ne_true
      · rename_i seq
        rcases none with h | h
        · cases h.symm.trans seq
        · exact absurd ‹_› h
      · rfl
    rw [taken, State.strayCycle_eq]
    rfl
  · rw [exec_dataIn hp h, dataIn_program (s := s.begin) hh hk ht, if_pos (by omega), streamByte_data tagged pos]
    rfl
  · rw [exec_dataIn hp h, dataIn_program (s := s.begin) hh hk ht, if_pos pos, streamByte_untagged tagged]
    rfl
  · rw [exec_dataIn hp h, dataIn_program (s := s.begin) hh hk ht, if_neg (by omega), State.countOnce_eq s.begin h.2.2]
    rfl
  · rw [exec_dataIn hp h, dataIn_frame (s := s.begin) hh hf, if_pos pos]
    rfl
  · rw [exec_dataIn hp h, dataIn_frame (s := s.begin) hh hf, if_neg (by omega), State.countOnce_eq s.begin h.2.2]
    rfl
  · rw [exec_dataIn hp h, State.dataIn, hh]
    rfl
  · rw [exec_dataIn hp h, dataIn_absorbed hh]
    rfl
  · rw [exec_dataIn hp h, dataIn_stray hh, State.strayCycle_eq]
    rfl

/-! ### The check codes, shift by shift (R24, R25) -/

theorem times_eq_iterate {α : Type} (n : Nat) (f : α → α) (a : α) : times n f a = f^[n] a := by
  induction n generalizing a with
  | zero => rfl
  | succ n ih => exact ih (f a)

/-- One shift of the CRC-32 register, on numbers (R24). -/
def shift32 (r : Nat) : Nat := if r % 2 = 1 then (r / 2) ^^^ 0xEDB88320 else r / 2

/-- One shift of the CRC-16 register, on numbers (R25). -/
def shift16 (r : Nat) : Nat := if 32768 ≤ r then (r * 2 % 65536) ^^^ 0x1021 else r * 2

theorem crc32Shift_toNat (r : BitVec 32) : (crc32Shift r).toNat = shift32 r.toNat := by
  have low : r.getLsbD 0 = decide (r.toNat % 2 = 1) := by
    rw [BitVec.getLsbD, Nat.testBit_zero]
  have half : (r >>> 1).toNat = r.toNat / 2 := by rw [BitVec.toNat_ushiftRight, Nat.shiftRight_eq_div_pow, pow_one]
  rw [crc32Shift, shift32, low]
  by_cases h : r.toNat % 2 = 1
  · rw [if_pos h, if_pos (decide_eq_true h), BitVec.toNat_xor, half]
    rfl
  · rw [if_neg h, if_neg (by simpa using h), half]

theorem crc16Shift_toNat (r : BitVec 16) : (crc16Shift r).toNat = shift16 r.toNat := by
  have high : r.getLsbD 15 = decide (32768 ≤ r.toNat) := by
    have := r.isLt
    rw [BitVec.getLsbD, Nat.testBit_eq_decide_div_mod_eq, decide_eq_decide]
    omega
  have double : (r <<< 1).toNat = r.toNat * 2 % 65536 := by rw [BitVec.toNat_shiftLeft, Nat.shiftLeft_eq, pow_one]
  rw [crc16Shift, shift16, high]
  by_cases h : 32768 ≤ r.toNat
  · rw [if_pos h, if_pos (decide_eq_true h), BitVec.toNat_xor, double]
    rfl
  · rw [if_neg h, if_neg (by simpa using h), double]
    omega

theorem crc32Byte_toNat (r : BitVec 32) (b : Byte) : (crc32Byte r b).toNat = shift32^[8] (r.toNat ^^^ b.toNat) := by
  have start : (r ^^^ b.setWidth 32).toNat = r.toNat ^^^ b.toNat := by
    rw [BitVec.toNat_xor, BitVec.toNat_setWidth, Nat.mod_eq_of_lt (by omega)]
  have shifts : Function.Semiconj BitVec.toNat crc32Shift shift32 := crc32Shift_toNat
  rw [crc32Byte, times_eq_iterate, (shifts.iterate_right 8).eq, start]

theorem crc16Byte_toNat (r : BitVec 16) (b : Byte) : (crc16Byte r b).toNat = shift16^[8] (r.toNat ^^^ (b.toNat * 256)) := by
  have start : (r ^^^ (b.setWidth 16 <<< 8)).toNat = r.toNat ^^^ (b.toNat * 256) := by
    rw [BitVec.toNat_xor, BitVec.toNat_shiftLeft, BitVec.toNat_setWidth, Nat.shiftLeft_eq, Nat.mod_eq_of_lt (by omega),
      Nat.mod_eq_of_lt (by omega)]
  have shifts : Function.Semiconj BitVec.toNat crc16Shift shift16 := crc16Shift_toNat
  rw [crc16Byte, times_eq_iterate, (shifts.iterate_right 8).eq, start]

theorem crc16_foldl_toNat (bs : List Byte) (r : BitVec 16) :
    (bs.foldl crc16Byte r).toNat = bs.foldl (fun r b => shift16^[8] (r ^^^ (b.toNat * 256))) r.toNat := by
  induction bs generalizing r with
  | nil => rfl
  | cons b bs ih => rw [List.foldl_cons, List.foldl_cons, ih, crc16Byte_toNat]

/-- The data columns a program leaves out count as 0xFF (R32). -/
theorem dataCrc_eq (p : TagProgram) :
    p.dataCrc = ~~~((List.replicate (4096 - p.pos) (0xFF : Byte)).foldl crc32Byte p.crc) := by
  have fill (n : Nat) (r : BitVec 32) :
      times n (fun r => crc32Byte r 0xFF) r = (List.replicate n (0xFF : Byte)).foldl crc32Byte r := by
    induction n generalizing r with
    | zero => rfl
    | succ n ih => exact ih _
  rw [TagProgram.dataCrc, fill]
  rfl

/-! ### The tag, byte by byte (R26, R197) -/

theorem ofBe_be16_min (n : Nat) : ofBe (be16 n) = min n 65535 := by
  have same : be16 n = be16 (min n 65535) := by simp only [be16, Nat.min_assoc, Nat.min_self]
  rw [same, ofBe_be16 (by omega)]

theorem ofBe_be32_min (n : Nat) : ofBe (be32 n) = min n 4294967295 := by
  have same : be32 n = be32 (min n 4294967295) := by simp only [be32, Nat.min_assoc, Nat.min_self]
  rw [same, ofBe_be32 (by omega)]

theorem addressEcho_toNat (k : ModuleId) (block : BitVec 11) (page : BitVec 7) :
    (addressEcho k block page).toNat = page.toNat + 128 * block.toNat + 262144 * k.val := by
  have : k.val < 4 := by cases k <;> decide
  rw [addressEcho, append_toNat, append_toNat, append_toNat]
  simp only [BitVec.toNat_ofNat]
  omega

theorem ofBe_singleton (b : Byte) : ofBe [b] = b.toNat := Nat.zero_add _

theorem stateByte_toNat (level : Level) (mon : MonState) : (stateByte level mon).toNat = level.code + 4 * mon.code := by
  cases level <;> cases mon <;> rfl

/-- Settles O22: the check codes shift by shift, the two kinds of data byte, and the tag field by field. -/
theorem tagIsBuiltAtColumn4096 : Obligations.TagIsBuiltAtColumn4096 := by
  refine ⟨⟨crc32Byte_toNat, fun bs => crc16_foldl_toNat bs _, dataCrc_eq⟩, fun s q p b hp h hk hh ht tagged => ⟨fun pos => ?_,
    fun tag built low high => ?_⟩, fun s p crc w => ?_⟩
  · rw [exec_dataIn hp h, dataIn_program (s := s.begin) hh hk ht, if_pos (by omega), streamByte_last tagged pos, pos]
    rfl
  · rw [exec_dataIn hp h, dataIn_program (s := s.begin) hh hk ht, if_pos high, streamByte_tag tagged low, TagProgram.tagByte,
      built]
    rfl
  · refine ⟨rfl, rfl, ?_, ?_, ?_, ?_, ?_, ?_, ?_, rfl, ?_⟩
    · exact ofBe_be32 crc.isLt
    · exact ofBe_be32_min w
    · exact ofBe_be16 (Nat.mod_lt _ (by decide))
    · exact ofBe_be16_min _
    · refine (ofBe_singleton _).trans ((stateByte_toNat _ _).trans ?_)
      cases s.gauge.level <;> cases s.mon.state <;> rfl
    · exact ofBe_be32_min _
    · exact (ofBe_be32 (addressEcho p.module p.block p.page).isLt).trans (addressEcho_toNat _ _ _)
    · exact ofBe_be16 (crc16 _).isLt

/-- Settles O23: each check of R38 reads back the field it was built from. -/
theorem builtTagReadsBackAsMatch : Obligations.BuiltTagReadsBackAsMatch := by
  intro s p r w hw module block page crc notEmpty captured
  have marker : r.captured.take 2 = [0xA7, 0x3C] := by rw [captured]; rfl
  have check : ofBe (r.captured.drop 30) = (crc16 (r.captured.take 30)).toNat := by
    rw [captured]
    exact ofBe_be16 (crc16 _).isLt
  have echo : ofBe ((r.captured.drop 19).take 4) = (addressEcho r.module r.block r.page).toNat := by
    rw [captured, module, block, page]
    exact ofBe_be32 (addressEcho p.module p.block p.page).isLt
  have data : ofBe ((r.captured.drop 2).take 4) = (crc32End r.crc).toNat := by
    rw [captured, crc32End, crc]
    exact ofBe_be32 p.dataCrc.isLt
  have seq : ofBe ((r.captured.drop 6).take 4) = w := by
    rw [captured]
    exact ofBe_be32 hw
  have matched : r.outcome = .matched := by
    simp only [TagRead.outcome, notEmpty, marker, check, echo, data, ne_eq, not_true_eq_false, or_self, Bool.false_eq_true,
      if_false]
  exact ⟨matched, by rw [matched, TagRead.reportSeq, seq]⟩

end Sys2Proof.Machine
end

section
/-! PROOFS. The READ close code, the close codes of what is discarded, refused or absent, and codes with no place (R3 to R5, R13,
R196). -/

namespace Sys2Proof.Machine

variable {s : State} {q : Seq}

/-! ### Close codes with a place -/

theorem closing_of (habs : s.relay.absorb = false) (hq : s.relay.seq = some q) (hl : q.handling ≠ .latching)
    (hc : q.closeTaken = false) : s.closing q.kind = some q := by
  rw [State.closing, habs, hq]
  exact if_pos ⟨rfl, hl, hc⟩

/-- A close code that its sequence takes ends a STATUS nested in it (log 10). -/
theorem serving_closeCode (hp : s.phase = .running) (habs : s.relay.absorb = false) (hq : s.relay.seq = some q)
    (hl : q.handling ≠ .latching) (hc : q.closeTaken = false) (f : State → Seq → State) :
    (s.serving fun s => s.closeCode q.kind f) = f s.nestedEnded.begin { q with closeTaken := true } := by
  have closing : s.begin.closing q.kind = some q := closing_of (s := s.begin) habs hq hl hc
  rw [State.serving_running hp, State.closeCode, closing, ← begin_nestedEnded, ← State.endNested_eq]

theorem closeRead_passed (hh : q.handling = .passed) :
    s.closeRead q =
      ((s.setSeq (some q)).forward [.code q.module 0x15]).onRelay fun r =>
        { r with readBusy := r.readBusy.set q.module (some (s.now + 1000)) } := by
  rw [State.closeRead, hh]
  rfl

theorem closeRead_absorbed (h : q.handling ∈ [Handling.discarded, .refused, .absent, .svcBlank]) :
    s.closeRead q = s.setSeq (some q) := by
  simp only [List.mem_cons, List.not_mem_nil, or_false] at h
  rw [State.closeRead]
  rcases h with h | h | h | h <;> rw [h]

theorem reportEffect_relay_doze (s : State) (p : BitVec 7) :
    (s.reportEffect p).relay = s.relay ∧ (s.reportEffect p).doze = s.doze := by
  unfold State.reportEffect
  split
  · exact ⟨rfl, rfl⟩
  · split <;> exact ⟨rfl, rfl⟩
  · exact ⟨rfl, rfl⟩

/-- A snapshot with its side effect reaches neither the relay nor doze control. -/
theorem takeSnapshot_relay_doze (s : State) (p : BitVec 7) :
    (s.takeSnapshot p).relay = s.relay ∧ (s.takeSnapshot p).doze = s.doze :=
  reportEffect_relay_doze _ p

theorem reportPage_of_closing {p : BitVec 7} {column : Nat} (h : s.closing .read = some q) (hh : q.handling = .svcReport p column) :
    s.reportPage p = s.endNested.closeRead { q with closeTaken := true } := by
  rw [State.reportPage, h]
  simp only [hh, if_true]

/-- The events of the seven report pages. -/
theorem exec_reportPage {c : Instr} {p : BitVec 7}
    (h : (c, p) ∈ [(Instr.reportPage1, (1 : BitVec 7)), (.reportPage2, 2), (.reportPage3, 3), (.reportPage4, 4),
      (.reportPage5, 5), (.reportPage6, 6), (.reportPage7, 7)]) (s : State) :
    exec c s = .next (s.serving fun s => s.reportPage p) := by
  simp only [List.mem_cons, List.not_mem_nil, or_false, Prod.mk.injEq] at h
  rcases h with ⟨rfl, rfl⟩ | ⟨rfl, rfl⟩ | ⟨rfl, rfl⟩ | ⟨rfl, rfl⟩ | ⟨rfl, rfl⟩ | ⟨rfl, rfl⟩ | ⟨rfl, rfl⟩ <;> rfl

/-- A report page's own event is the close code of its read (log 21). -/
theorem serving_reportPage {p : BitVec 7} {column : Nat} (hp : s.phase = .running) (habs : s.relay.absorb = false)
    (hq : s.relay.seq = some q) (hk : q.kind = .read) (hc : q.closeTaken = false) (hh : q.handling = .svcReport p column) :
    (s.serving fun s => s.reportPage p) =
      (s.nestedEnded.begin.setSeq (some { q with closeTaken := true })).takeSnapshot p := by
  have closing : s.begin.closing .read = some q := hk ▸ closing_of (s := s.begin) habs hq (by rw [hh]; nofun) hc
  rw [State.serving_running hp, reportPage_of_closing closing hh, State.endNested_eq, begin_nestedEnded,
    State.closeRead_report (q := { q with closeTaken := true }) _ hh]

/-- The own close code of a discarded, refused or absent program or erase ends it alone (log 11). -/
theorem close_absorbed (h : q.handling ∈ [Handling.discarded, .refused, .absent]) :
    s.closeProgram q = s.endSequence ∧ s.closeErase q = s.endSequence := by
  simp only [List.mem_cons, List.not_mem_nil, or_false] at h
  rw [State.closeProgram, State.closeErase]
  rcases h with h | h | h <;> rw [h] <;> exact ⟨rfl, rfl⟩

theorem endSequence_absorbed (hq : s.relay.seq = some q) (h : q.handling ∈ [Handling.discarded, .refused, .absent]) :
    s.endSequence =
      { s with
        relay := { s.relay with seq := none, nested := none, stray := false }
        doze := { s.doze with idleFromMs := s.now / 1000 } } := by
  refine endSequence_of_leave hq (leaveSequence_plain ?_)
  simp only [List.mem_cons, List.not_mem_nil, or_false] at h ⊢
  tauto

/-- Settles O26: by the kind and the handling of the sequence. -/
theorem readCloseStartsTheBusyPeriod : Obligations.ReadCloseStartsTheBusyPeriod := by
  intro s q hp habs hq hl hc
  obtain ⟨stray, idle, ended⟩ := nestedEnded_reaches s
  have taken (f : State → Seq → State) := serving_closeCode hp habs hq hl hc f
  refine ⟨fun hk => ?_, fun hh => ?_⟩
  · have closes : exec .readClose s = .next (s.nestedEnded.begin.closeRead { q with closeTaken := true }) :=
      congrArg Host.Outcome.next (hk ▸ taken State.closeRead)
    refine ⟨fun hh => ?_, fun hh => ?_, fun p column hh c hcp => ?_⟩
    · rw [closes, closeRead_passed (q := { q with closeTaken := true }) hh, ended]
      rfl
    · rw [closes, closeRead_absorbed (q := { q with closeTaken := true }) hh]
      rfl
    · have report : exec .readClose s =
          .next ((s.nestedEnded.begin.setSeq (some { q with closeTaken := true })).takeSnapshot p) := by
        rw [closes, State.closeRead_report (q := { q with closeTaken := true }) _ hh]
      obtain ⟨relay, doze⟩ := takeSnapshot_relay_doze (s.nestedEnded.begin.setSeq (some { q with closeTaken := true })) p
      refine ⟨?_, _, report, relay, doze⟩
      rw [report, exec_reportPage hcp, serving_reportPage hp habs hq hk hc hh]
  · have seq : s.nestedEnded.begin.relay.seq = some q := ended ▸ hq
    obtain ⟨program, erase⟩ := close_absorbed (s := s.nestedEnded.begin) (q := { q with closeTaken := true }) hh
    refine ⟨fun hk => ?_, fun hk => ?_⟩
    · have closes : exec .programClose s = .next (s.nestedEnded.begin.closeProgram { q with closeTaken := true }) :=
        congrArg Host.Outcome.next (hk ▸ taken State.closeProgram)
      rw [closes, program, endSequence_absorbed seq hh, ended]
      rfl
    · have closes : exec .eraseClose s = .next (s.nestedEnded.begin.closeErase { q with closeTaken := true }) :=
        congrArg Host.Outcome.next (hk ▸ taken State.closeErase)
      rw [closes, erase, endSequence_absorbed seq hh, ended]
      rfl

/-! ### Codes with no place (R3) -/

theorem closeCode_unplaced {kind : SeqKind}
    (h : s.relay.absorb = true ∨ ∀ q, s.relay.seq = some q → q.kind ≠ kind ∨ q.handling = .latching ∨ q.closeTaken = true)
    (f : State → Seq → State) : s.closeCode kind f = s.unplacedArrives (some kind) := by
  have closing : s.closing kind = none := by
    unfold State.closing
    split
    case h_1 q absorb seq =>
      rw [if_neg]
      rintro ⟨same, past, first⟩
      rcases h with h | h
      · exact absurd (absorb.symm.trans h) Bool.false_ne_true
      · rcases h q seq with h | h | h
        · exact h same
        · exact past h
        · exact absurd (first.symm.trans h) Bool.false_ne_true
    case h_2 => rfl
  rw [State.closeCode, closing]

theorem columnMove_unplaced {col : BitVec 16}
    (h : s.relay.absorb = true
      ∨ ∀ q, s.relay.seq = some q → q.handling = .latching ∨ q.kind ∈ [SeqKind.erase, .status, .identify]) :
    s.columnMove col = s.unplacedArrives none := by
  unfold State.columnMove
  split
  case h_1 q absorb seq =>
    rcases h with h | h
    · exact absurd (absorb.symm.trans h) Bool.false_ne_true
    · rcases h q seq with h | h
      · rw [if_pos h]
      · simp only [List.mem_cons, List.not_mem_nil, or_false] at h
        rcases h with h | h | h <;> simp only [h, ite_self]
  case h_2 => rfl

theorem unplacedArrives_absorbed (closes : Option SeqKind) (h : s.relay.absorb = true) : s.unplacedArrives closes = s := by
  rw [State.unplacedArrives, if_pos h]

/-- The codes that can come with no place, where they do. -/
theorem exec_unplaced {c : Instr} {closes : Option SeqKind} (hp : s.phase = .running)
    (hc : (c, closes) ∈ [(Instr.readClose, some SeqKind.read), (.programClose, some .program), (.eraseClose, some .erase)]
      ∨ ((∃ col, c = .columnMove col) ∨ ∃ b, c = .unplacedCode b ∧ channelCodeOf b = none) ∧ closes = none)
    (h : s.relay.absorb = true ∨ ∀ q, s.relay.seq = some q → q.handling = .latching
      ∨ (∃ b, c = .unplacedCode b ∧ channelCodeOf b = none)
      ∨ ((∃ col, c = .columnMove col) ∧ q.kind ∈ [SeqKind.erase, .status, .identify])
      ∨ (closes ≠ none ∧ (closes ≠ some q.kind ∨ q.closeTaken = true))) :
    exec c s = .next (s.begin.unplacedArrives closes) := by
  rcases hc with hc | ⟨⟨col, rfl⟩ | ⟨b, rfl, unknown⟩, rfl⟩
  · obtain ⟨kind, f, close, rfl⟩ : ∃ kind f, exec c s = .next (s.serving fun s => s.closeCode kind f) ∧ closes = some kind := by
      simp only [List.mem_cons, List.not_mem_nil, or_false, Prod.mk.injEq] at hc
      rcases hc with ⟨rfl, rfl⟩ | ⟨rfl, rfl⟩ | ⟨rfl, rfl⟩ <;> exact ⟨_, _, rfl, rfl⟩
    rw [close, State.serving_running hp, closeCode_unplaced (s := s.begin)]
    refine h.imp_right fun h q hq => ?_
    rcases h q hq with latching | ⟨b, rfl, -⟩ | ⟨⟨col, rfl⟩, -⟩ | ⟨-, other | second⟩
    · exact .inr (.inl latching)
    · exact absurd hc (by simp)
    · exact absurd hc (by simp)
    · exact .inl fun same => other (congrArg some same.symm)
    · exact .inr (.inr second)
  · have taken : exec (.columnMove col) s = .next (s.begin.columnMove col) := congrArg _ (State.serving_running hp _)
    rw [taken, columnMove_unplaced (s := s.begin)]
    refine h.imp_right fun h q hq => ?_
    rcases h q hq with latching | ⟨b, move, -⟩ | ⟨-, other⟩ | ⟨closes, -⟩
    · exact .inl latching
    · exact Instr.noConfusion move
    · exact .inr other
    · exact absurd rfl closes
  · have taken : exec (.unplacedCode b) s = .next (s.begin.unplacedByte b) := congrArg _ (State.serving_running hp _)
    rw [taken, State.unplacedByte, unknown]

theorem cutAddress_endSequence (h : s.relay.nested = none) (q : Seq) :
    (s.cutAddress q).endSequence =
      { s with
        counters := { s.counters with protocol := min (s.counters.protocol + 1) 65535 }
        relay := { s.relay with seq := none, stray := false }
        doze := { s.doze with idleFromMs := s.now / 1000 } } := by
  rw [endSequence_absorbed (q := { q with handling := .discarded }) rfl (List.mem_cons_self ..), ← h]
  rfl

theorem channelCodeOf_eq_none {c : Byte} (h : c ∉ ChannelCode.all.map ChannelCode.byte) : channelCodeOf c = none :=
  List.find?_eq_none.2 fun _ mem spelt => h (of_decide_eq_true spelt ▸ List.mem_map_of_mem mem)

/-- Settles O27: none of these codes has a place, so each arrives unplaced; the table is read row by row. -/
theorem unplacedCodeIsCounted : Obligations.UnplacedCodeIsCounted := by
  refine ⟨fun s c closes hp hc => ⟨fun absorb => ?_, fun absorb => ⟨fun none => ?_, fun q hq past place => ?_,
    fun q hq latching nested => ⟨fun own ends => ?_, fun other => ?_⟩⟩⟩, fun col => ?_⟩
  · rw [exec_unplaced hp hc (.inl absorb), unplacedArrives_absorbed (s := s.begin) closes absorb]
    rfl
  · have never {q : Seq} (h : s.relay.seq = some q) : False := by
      rw [none] at h
      cases h
    rw [exec_unplaced hp hc (.inr fun q hq => (never hq).elim),
      State.unplacedArrives_counted s.begin closes absorb (.inr fun q hq => (never hq).elim)]
    rfl
  · have same {q' : Seq} (h : s.relay.seq = some q') : q = q' := Option.some.inj (hq.symm.trans h)
    rw [exec_unplaced hp hc (.inr fun q' hq' => same hq' ▸ .inr place),
      State.unplacedArrives_counted s.begin closes absorb (.inr fun q' hq' => same hq' ▸ past)]
    rfl
  · have same {q' : Seq} (h : s.relay.seq = some q') : q = q' := Option.some.inj (hq.symm.trans h)
    rw [exec_unplaced hp hc (.inr fun q' hq' => same hq' ▸ .inl latching),
      State.unplacedArrives_cut s.begin closes ⟨absorb, nested, hq⟩ latching, if_pos ⟨own, ends⟩,
      cutAddress_endSequence (s := s.begin) nested]
    rfl
  · have same {q' : Seq} (h : s.relay.seq = some q') : q = q' := Option.some.inj (hq.symm.trans h)
    rw [exec_unplaced hp hc (.inr fun q' hq' => same hq' ▸ .inl latching),
      State.unplacedArrives_cut s.begin closes ⟨absorb, nested, hq⟩ latching,
      if_neg fun ⟨own, ends⟩ => other.elim (fun h => h own) ends]
    rfl
  · refine ⟨rfl, rfl, rfl, rfl, rfl, rfl, rfl, rfl, rfl, rfl, rfl, rfl, fun c outside => ?_⟩
    rw [codeCommand, channelCodeOf_eq_none outside]

end Sys2Proof.Machine
end

section
/-! PROOFS. Data-out strobes and the read check they settle (R3 to R5, R8, R13, R18, R36 to R41, R144 to R150, R175). -/

namespace Sys2Proof.Machine

variable {s : State} {q : Seq} {r : TagRead} {b : Byte}

/-! ### What a strobe is answered -/

theorem exec_dataOut (hp : s.phase = .running) (h : s.InSequence q) (b : Byte) :
    exec (.dataOutStrobe b) s = .next (s.begin.dataOut q b) := by
  obtain ⟨absorb, nested, seq⟩ := h
  simp only [exec, execDataOutStrobe, State.serving_running hp, State.begin_relay, absorb, nested, seq]

/-- A strobe with no sequence open (R3). -/
theorem exec_dataOut_closed (hp : s.phase = .running) (habs : s.relay.absorb = false) (hq : s.relay.seq = none) (b : Byte) :
    exec (.dataOutStrobe b) s = .next s.begin.strayCycle := by
  simp only [exec, execDataOutStrobe, State.serving_running hp, State.begin_relay, habs, hq]

theorem dataOut_read (hh : q.handling = .passed) (hk : q.kind = .read) : s.dataOut q b = s.strobeRead q b := by
  rw [State.dataOut, hh, hk]

theorem dataOut_identify (hh : q.handling = .passed) (hk : q.kind = .identify) :
    s.dataOut q b = (s.forward [.strobe q.module]).answerByte b := by
  rw [State.dataOut, hh, hk]

theorem dataOut_status (hh : q.handling = .passed) (hk : q.kind = .status) :
    s.dataOut q b = (s.answerStatus q.module q.answer b).endSequence := by
  rw [State.dataOut, hh, hk]

theorem leaveSequence_status (hh : q.handling = .passed) (hk : q.kind = .status) : s.leaveSequence q = s := by
  rw [State.leaveSequence, hh, hk]

theorem dataOut_absorbed (h : q.handling = .discarded ∨ q.handling = .refused ∨ q.handling = .absent) :
    s.dataOut q b = s.strobeAbsorbed q := by
  rw [State.dataOut]
  rcases h with h | h | h <;> rw [h]

theorem strobeAbsorbed_read (hk : q.kind = .read ∨ q.kind = .identify) : s.strobeAbsorbed q = s.answerByte 0xFF := by
  rw [State.strobeAbsorbed]
  rcases hk with hk | hk <;> rw [hk]

theorem strobeAbsorbed_write (hk : q.kind = .program ∨ q.kind = .erase) : s.strobeAbsorbed q = s := by
  rw [State.strobeAbsorbed]
  rcases hk with hk | hk <;> rw [hk]

theorem dataOut_write (hk : q.kind = .program ∨ q.kind = .erase) (hh : q.handling = .passed ∨ q.handling = .svcFrame) :
    s.dataOut q b = s.strayCycle := by
  rw [State.dataOut]
  rcases hh with hh | hh <;> rw [hh]
  rcases hk with hk | hk <;> rw [hk]

theorem dataOut_report {p : BitVec 7} {column : Nat} (hh : q.handling = .svcReport p column) :
    s.dataOut q b = s.strobeReport q p column := by
  rw [State.dataOut, hh]

theorem strobeReport_busy {p : BitVec 7} {column : Nat} (hc : q.closeTaken = true) (h : s.svc.processing ≠ none) :
    s.strobeReport q p column = (s.countOnce q).answerByte 0xFF := by
  rw [State.strobeReport, if_pos hc, if_pos (Option.isSome_iff_ne_none.2 h)]

/-- A strobe of a read past its close code and its busy period (R36). -/
theorem strobeRead_examined (hc : q.closeTaken = true) (ht : q.timedOut = false) (hb : s.relay.readBusy.get q.module = none) :
    s.strobeRead q b = ((s.forward [.strobe q.module]).examine b).answerByte b := by
  simp only [State.strobeRead, hc, ht, hb, Option.isSome_none, if_true, Bool.false_eq_true, if_false]

/-- A strobe in a read's busy period (R5, R37). -/
theorem strobeRead_busy (hc : q.closeTaken = true) (ht : q.timedOut = false) (hb : s.relay.readBusy.get q.module ≠ none) :
    s.strobeRead q b = (s.loseOrder.countOnce q).answerByte 0xFF := by
  simp only [State.strobeRead, hc, ht, Option.isSome_iff_ne_none.2 hb, if_true, Bool.false_eq_true, if_false]

/-- The read once a byte at its column is examined (R36). -/
def TagRead.taking (r : TagRead) (b : Byte) : TagRead :=
  { r with
    pos := r.pos + 1
    crc := if r.pos < 4096 then crc32Byte r.crc b else r.crc
    captured := if r.pos < 4096 then r.captured else r.captured ++ [b]
    allFF := r.allFF && decide (b = 0xFF) }

theorem examine_of_some (hr : s.tag.read = some r) (order : r.inOrder = true) (unsettled : r.settled = false) (h : r.pos < 4128) :
    s.examine b =
      if r.pos = 4127 then s.settleRead (r.taking b) (r.taking b).outcome else s.setRead (some (r.taking b)) := by
  have inPage : r.pos < Config.pageColumns := h
  have last : (r.taking b).pos = Config.pageColumns ↔ r.pos = 4127 := Nat.succ_inj
  have examined : (r.inOrder && !r.settled && decide (r.pos < Config.pageColumns)) = true := by
    rw [order, unsettled, decide_eq_true inPage]
    rfl
  rw [State.examine, hr]
  exact (if_pos examined).trans (if_congr last rfl rfl)

theorem examine_passed (hr : s.tag.read = some r) (h : r.inOrder = false ∨ r.settled = true) : s.examine b = s := by
  rw [State.examine, hr]
  refine if_neg fun examined => ?_
  simp only [Bool.and_eq_true, Bool.not_eq_true'] at examined
  rcases h with h | h
  · exact absurd (h.symm.trans examined.1.1) Bool.false_ne_true
  · exact absurd (examined.1.2.symm.trans h) Bool.false_ne_true

/-- Settles O24: by the handling of the sequence, and in a read by its close code, its busy period and its order. -/
theorem strobeIsAnswered : Obligations.StrobeIsAnswered := by
  refine ⟨fun s b hp => ⟨fun absorb => ?_, fun absorb none => ⟨fun stray => ?_, fun stray => ?_⟩, fun q a absorb seq nested => ?_⟩,
    fun s q b hp h => ⟨fun hh => ?_, fun r hk hh hr => ⟨fun hc => ?_, fun hc ht => ?_, fun hc ht hb => ?_,
      fun hc ht hb => ⟨fun order unsettled pos => ?_, fun done => ?_⟩⟩, fun hk hh => ?_, fun hk hh => ?_,
      fun hh => ⟨fun hc => ?_, fun hc => ?_⟩,
      fun p column hh => ⟨fun hc => ?_, fun hc busy => ?_, fun n hc idle snapshot => ?_⟩,
      fun hk hh => ⟨fun own answer => ?_, fun answer => ?_⟩, fun hk => ⟨fun hh => ?_, fun hh => ?_⟩⟩⟩
  · simp only [exec, execDataOutStrobe, State.serving_running hp, State.begin_relay, absorb]
    rfl
  · rw [exec_dataOut_closed hp absorb none]
    exact congrArg _ (if_pos stray)
  · rw [exec_dataOut_closed hp absorb none]
    exact congrArg _ (if_neg (Bool.eq_false_iff.1 stray))
  · simp only [State.nestedEnded, nested]
    exact strobe_nested hp absorb seq nested
  · rw [exec_dataOut hp h, State.dataOut, hh]
    rfl
  · rw [exec_dataOut hp h, dataOut_read hh hk, State.strobeRead, hc]
    rfl
  · rw [exec_dataOut hp h, dataOut_read hh hk, State.strobeRead, hc, ht]
    rfl
  · rw [exec_dataOut hp h, dataOut_read hh hk, strobeRead_busy (s := s.begin) hc ht hb,
      loseOrder_of_some (s := s.begin) (r := r) hr]
    cases counted : q.counted <;> simp only [State.countOnce, counted] <;> rfl
  · have pos' : ¬r.pos = 4127 := Nat.ne_of_lt pos
    rw [exec_dataOut hp h, dataOut_read hh hk, strobeRead_examined (s := s.begin) hc ht hb,
      examine_of_some (s := s.begin.forward [.strobe q.module]) hr order unsettled (Nat.lt_succ_of_lt pos), if_neg pos']
    rfl
  · rw [exec_dataOut hp h, dataOut_read hh hk, strobeRead_examined (s := s.begin) hc ht hb,
      examine_passed (s := s.begin.forward [.strobe q.module]) hr done]
    rfl
  · rw [exec_dataOut hp h, dataOut_identify hh hk]
    rfl
  · rw [exec_dataOut hp h, dataOut_absorbed hh, strobeAbsorbed_read hk]
    rfl
  · rw [exec_dataOut hp h, State.dataOut, hh]
    simp only [State.strobeBlank, hc]
    rfl
  · rw [exec_dataOut hp h, State.dataOut, hh]
    simp only [State.strobeBlank, hc]
    rfl
  · rw [exec_dataOut hp h, dataOut_report hh, State.strobeReport, hc]
    rfl
  · rw [exec_dataOut hp h, dataOut_report hh, strobeReport_busy (s := s.begin) hc busy]
    cases counted : q.counted <;> simp only [State.countOnce, counted] <;> rfl
  · simp only [exec_dataOut hp h, dataOut_report hh, State.strobeReport, hc, State.begin_svc, idle, snapshot]
    rfl
  · rw [exec_dataOut hp h, dataOut_status hh hk, answer,
      endSequence_of_leave (s := s.begin.answerStatus q.module (.byPart own) b) h.2.2 (leaveSequence_status hh hk)]
    rfl
  · rw [exec_dataOut hp h, dataOut_status hh hk, answer,
      endSequence_of_leave (s := s.begin.answerStatus q.module .fromModule b) h.2.2 (leaveSequence_status hh hk)]
    rfl
  · rw [exec_dataOut hp h, dataOut_write hk hh]
    rfl
  · rw [exec_dataOut hp h, dataOut_absorbed hh, strobeAbsorbed_write hk]
    rfl

/-! ### The settled read (R38, R40, R41) -/

/-- Its checks in their order give the outcome of a read in order (R38). -/
theorem outcome_empty (h : r.allFF = true) : r.outcome = .empty := by
  rw [TagRead.outcome, if_pos h]

/-- The tag captured from a read has the marker and its check code (R26). -/
def TagRead.HasTag (r : TagRead) : Prop :=
  r.captured.take 2 = [0xA7, 0x3C] ∧ (crc16 (r.captured.take 30)).toNat = ofBe (r.captured.drop 30)

/-- The tag captured from a read echoes its own page. -/
def TagRead.Placed (r : TagRead) : Prop :=
  ofBe ((r.captured.drop 19).take 4) = r.page.toNat + 128 * r.block.toNat + 262144 * r.module.val

/-- The data read gives the CRC that its tag holds. -/
def TagRead.Whole (r : TagRead) : Prop := ofBe ((r.captured.drop 2).take 4) = (~~~r.crc).toNat

theorem hasTag_iff : r.HasTag ↔
    ¬(r.captured.take 2 ≠ [0xA7, 0x3C] ∨ (crc16 (r.captured.take 30)).toNat ≠ ofBe (r.captured.drop 30)) := by
  rw [TagRead.HasTag, not_or, not_not, not_not]

theorem placed_iff : r.Placed ↔ ¬ofBe ((r.captured.drop 19).take 4) ≠ (addressEcho r.module r.block r.page).toNat := by
  rw [TagRead.Placed, not_not, addressEcho_toNat]

theorem whole_iff : r.Whole ↔ ¬ofBe ((r.captured.drop 2).take 4) ≠ (crc32End r.crc).toNat := not_not.symm

theorem outcome_untagged (empty : r.allFF = false) (tag : ¬r.HasTag) : r.outcome = .untagged := by
  rw [TagRead.outcome, if_neg (Bool.eq_false_iff.1 empty), if_pos (not_not.1 (hasTag_iff.not.1 tag))]

theorem outcome_misplaced (empty : r.allFF = false) (tag : r.HasTag) (placed : ¬r.Placed) : r.outcome = .misplaced := by
  rw [TagRead.outcome, if_neg (Bool.eq_false_iff.1 empty), if_neg (hasTag_iff.1 tag), if_pos (not_not.1 (placed_iff.not.1 placed))]

theorem outcome_mismatch (empty : r.allFF = false) (tag : r.HasTag) (placed : r.Placed) (whole : ¬r.Whole) :
    r.outcome = .mismatch := by
  rw [TagRead.outcome, if_neg (Bool.eq_false_iff.1 empty), if_neg (hasTag_iff.1 tag), if_neg (placed_iff.1 placed),
    if_pos (not_not.1 (whole_iff.not.1 whole))]

theorem outcome_matched (empty : r.allFF = false) (tag : r.HasTag) (placed : r.Placed) (whole : r.Whole) :
    r.outcome = .matched := by
  rw [TagRead.outcome, if_neg (Bool.eq_false_iff.1 empty), if_neg (hasTag_iff.1 tag), if_neg (placed_iff.1 placed),
    if_neg (whole_iff.1 whole)]

/-! ### Its report to the suspect list (R144 to R150) -/

/-- A DAMAGED request for a page that the list does not hold: a new entry, or dropped by a full list (R144, R149, R150). -/
theorem handRequest_damaged {req : Suspect} (h : findSuspect s.ret.suspects req.key = none) (damaged : req.verdict = .damaged) :
    s.handRequest req true =
      { s with
        ret :=
          { s.ret with
            suspects := if s.ret.suspects.length < 48 then s.ret.suspects ++ [req] else s.ret.suspects
            overflow := if s.ret.suspects.length < 48 then s.ret.overflow else min (s.ret.overflow + 1) 255 }
        causes := s.causes ||| (if s.ret.suspects.length < 48 then 4 else 132) } := by
  have integrity : (s.causes ||| 128) ||| 4 = s.causes ||| 132 := by rw [BitVec.or_assoc]; rfl
  by_cases room : s.ret.suspects.length < Config.suspectPlaces
  · have room' : s.ret.suspects.length < 48 := room
    simp only [State.handRequest, addSuspect, h, room, room', damaged, if_true]
    rfl
  · have room' : ¬s.ret.suspects.length < 48 := room
    simp only [State.handRequest, addSuspect, h, room, room', damaged, if_false, ← integrity]
    rfl

/-- An entry that turns DAMAGED raises INTEGRITY (R147, R148, R150). -/
theorem damage_eq {e new : Suspect} {key : SuspectKey} (h : new.key = key) :
    s.damage e new =
      { s with
        ret :=
          { s.ret with
            suspects := s.ret.suspects.map fun x => if x.key = key then { new with verdict := .damaged } else x }
        causes := if e.verdict = .isOpen then s.causes ||| 4 else s.causes } := by
  rw [← h, State.damage]
  cases e.verdict <;> rfl

theorem reason_le_misplaced (reason : Reason) : reason.code ≤ Reason.misplaced.code := by
  cases reason <;> decide

theorem matchRemoves_iff (reason : Reason) :
    reason.matchRemoves = true ↔ ¬(reason = .lost ∨ reason = .mismatch ∨ reason = .misplaced) := by
  cases reason <;> decide

/-- The entry a read report makes of a fault it found (R147, R149). -/
def State.foundEntry (s : State) (key : SuspectKey) (reason : Reason) (ws : Option Nat) : Suspect :=
  { key := key, reason := reason, verdict := .damaged, writeSeq := ws, shock := none, stamp := s.clock.stamp }

section

variable {key : SuspectKey} {e : Suspect} (ws : Option Nat)

theorem readReport_absent_plain (h : findSuspect s.ret.suspects key = none) {o : ReadOutcome}
    (ho : o ∈ [ReadOutcome.matched, .untagged, .empty]) : s.readReport o key ws = s := by
  simp only [List.mem_cons, List.not_mem_nil, or_false] at ho
  rcases ho with rfl | rfl | rfl <;> rw [State.readReport, h]

theorem readReport_absent_mismatch (h : findSuspect s.ret.suspects key = none) :
    s.readReport .mismatch key ws = s.handRequest (s.foundEntry key .mismatch ws) true := by
  rw [State.readReport, h]
  rfl

theorem readReport_absent_misplaced (h : findSuspect s.ret.suspects key = none) :
    s.readReport .misplaced key ws = s.handRequest (s.foundEntry key .misplaced ws) true := by
  rw [State.readReport, h]
  rfl

theorem readReport_empty (h : findSuspect s.ret.suspects key = some e) :
    s.readReport .empty key ws = if e.reason = .lost then s else s.damage e e := by
  rw [State.readReport, h]

theorem readReport_untagged (h : findSuspect s.ret.suspects key = some e) : s.readReport .untagged key ws = s.damage e e := by
  rw [State.readReport, h]

/-- No reason is more severe than MISPLACED (R145). -/
theorem readReport_misplaced (h : findSuspect s.ret.suspects key = some e) :
    s.readReport .misplaced key ws = s.damage e (s.foundEntry key .misplaced ws) := by
  rw [State.readReport, h]
  exact congrArg (s.damage e) (if_pos (reason_le_misplaced e.reason))

/-- MISPLACED alone is more severe than MISMATCH (R145). -/
theorem readReport_mismatch (h : findSuspect s.ret.suspects key = some e) :
    s.readReport .mismatch key ws = s.damage e (if e.reason = .misplaced then e else s.foundEntry key .mismatch ws) := by
  rw [State.readReport, h]
  refine congrArg (s.damage e) ?_
  rw [mergeSuspect]
  cases e.reason <;> rfl

/-- A MATCH vouches for its page against every reason but three (R146). -/
theorem readReport_matched (h : findSuspect s.ret.suspects key = some e) :
    s.readReport .matched key ws =
      if e.reason = .lost ∨ e.reason = .mismatch ∨ e.reason = .misplaced then s else s.removeSuspect key := by
  rw [State.readReport, h, ← ite_not]
  exact if_congr (matchRemoves_iff e.reason) rfl rfl

end

/-- The read whose byte at column 4127 is examined. -/
theorem taking_last (h : r.pos = 4127) (b : Byte) :
    r.taking b =
      { r with pos := 4128, captured := r.captured ++ [b], allFF := r.allFF && decide (b = 0xFF) } := by
  rw [TagRead.taking, h]
  rfl

/-- The part once the byte at column 4127 is strobed, its read check settled and not yet counted. -/
def State.settledAt (s : State) (k : ModuleId) (r : TagRead) (b : Byte) : State :=
  { s with
    ports := ⟨[.strobe k], none, []⟩
    arb := { s.arb with gapFrom := none }
    tag :=
      { s.tag with
        read := some
          { r with pos := 4128, captured := r.captured ++ [b], allFF := r.allFF && decide (b = 0xFF), settled := true } } }

/-- The strobe of column 4127 of a read in order, by its outcome. -/
theorem exec_lastColumn (hp : s.phase = .running) (h : s.InSequence q) (hk : q.kind = .read) (hh : q.handling = .passed)
    (hc : q.closeTaken = true) (ht : q.timedOut = false) (hb : s.relay.readBusy.get q.module = none)
    (hr : s.tag.read = some r) (order : r.inOrder = true) (unsettled : r.settled = false) (pos : r.pos = 4127)
    {o : ReadOutcome} (ho : (r.taking b).outcome = o) :
    exec (.dataOutStrobe b) s =
      .next ((((s.settledAt q.module r b).readReport o ⟨r.module, r.block, some r.page⟩ ((r.taking b).reportSeq o)).count
        o.counter).answerByte b) := by
  rw [exec_dataOut hp h, dataOut_read hh hk, strobeRead_examined (s := s.begin) hc ht hb,
    examine_of_some (s := s.begin.forward [.strobe q.module]) hr order unsettled (by omega), if_pos pos, ho, State.settleRead,
    taking_last pos]
  rfl

/-- Settles O25: the outcome is that of the checks in their order, and the list's answer that of its entry. -/
theorem lastColumnSettlesTheRead : Obligations.LastColumnSettlesTheRead := by
  intro s q r b hp h hk hh hc ht hb hr order unsettled pos
  have settles {o : ReadOutcome} := exec_lastColumn (b := b) (o := o) hp h hk hh hc ht hb hr order unsettled pos
  have read := taking_last pos b
  have notEmpty (h : ¬(r.allFF = true ∧ b = 0xFF)) : (r.taking b).allFF = false := by
    rw [read]
    simpa using h
  have empty (h : r.allFF = true ∧ b = 0xFF) : (r.taking b).outcome = .empty :=
    outcome_empty (by rw [read]; simp [h])
  intro tag isEmpty isTag isPlaced isWhole key found
  have hasTag : (r.taking b).HasTag ↔ isTag := by rw [read]; rfl
  have placed : (r.taking b).Placed ↔ isPlaced := by rw [read]; rfl
  have whole : (r.taking b).Whole ↔ isWhole := by rw [read]; rfl
  have untagged (e : ¬isEmpty) (t : ¬isTag) := outcome_untagged (notEmpty e) (hasTag.not.2 t)
  have misplaced (e : ¬isEmpty) (t : isTag) (p : ¬isPlaced) := outcome_misplaced (notEmpty e) (hasTag.2 t) (placed.not.2 p)
  have mismatch (e : ¬isEmpty) (t : isTag) (p : isPlaced) (w : ¬isWhole) :=
    outcome_mismatch (notEmpty e) (hasTag.2 t) (placed.2 p) (whole.not.2 w)
  have matched (e : ¬isEmpty) (t : isTag) (p : isPlaced) (w : isWhole) :=
    outcome_matched (notEmpty e) (hasTag.2 t) (placed.2 p) (whole.2 w)
  have seq (o : ReadOutcome) (ho : o = .misplaced ∨ o = .mismatch) :
      (r.taking b).reportSeq o = some (ofBe ((tag.drop 6).take 4)) := by
    rw [read]
    rcases ho with rfl | rfl <;> rfl
  refine ⟨fun absent => ?_, fun e present => ?_⟩
  · have absent' : findSuspect (s.settledAt q.module r b).ret.suspects key = none := findSuspect_none.2 absent
    refine ⟨fun e => ?_, fun e t => ?_, fun e t p => ?_, fun e t p w => ?_, fun e t p w => ?_⟩
    · rw [settles (empty e), readReport_absent_plain _ absent' (by decide)]
      rfl
    · rw [settles (untagged e t), readReport_absent_plain _ absent' (by decide)]
      rfl
    · rw [settles (misplaced e t p), readReport_absent_misplaced _ absent', handRequest_damaged absent' rfl, seq _ (.inl rfl)]
      rfl
    · rw [settles (mismatch e t p w), readReport_absent_mismatch _ absent', handRequest_damaged absent' rfl, seq _ (.inr rfl)]
      rfl
    · rw [settles (matched e t p w), readReport_absent_plain _ absent' (by decide)]
      rfl
  · have present' : findSuspect (s.settledAt q.module r b).ret.suspects key = some e := present
    have own : e.key = key := (findSuspect_some present).2
    refine ⟨fun all => ?_, fun some t => ?_, fun some t p => ?_, fun some t p w => ?_, fun some t p w => ?_⟩
    · rw [settles (empty all), readReport_empty _ present', damage_eq own]
      split <;> rfl
    · rw [settles (untagged some t), readReport_untagged _ present', damage_eq own]
      rfl
    · rw [settles (misplaced some t p), readReport_misplaced _ present', damage_eq (key := key) rfl, seq _ (.inl rfl)]
      rfl
    · rw [settles (mismatch some t p w), readReport_mismatch _ present', seq _ (.inr rfl)]
      split
      · rw [damage_eq own]
        rfl
      · rw [damage_eq (key := key) rfl]
        rfl
    · rw [settles (matched some t p w), readReport_matched _ present']
      split <;> rfl

end Sys2Proof.Machine
end

section
/-! PROOFS. The confirm: its decision, what each decision does to the slot, and the tag completed before it (R7, R32, R33, R72, R83
to R85, R124 to R126). -/

namespace Sys2Proof.Machine

variable {s : State} {q : Seq}

/-! ### The decision (R84, R124) -/

theorem isAway_iff (m : MonState) : m.isAway = true ↔ m = .falling ∨ m = .struck ∨ m = .settling := by
  cases m <;> decide

theorem isAway_eq_false (m : MonState) : m.isAway = false ↔ m = .calm ∨ m = .blind := by
  cases m <;> decide

theorem admits_program {level : Level} : admits .program level = true ↔ level ≠ .critical := by
  cases level <;> decide

theorem admits_erase {level : Level} : admits .erase level = true ↔ level = .normal := by
  cases level <;> decide

theorem confirmDecision_issue {kind : OpKind} {level : Level} {m : MonState} (ha : admits kind level = true)
    (hm : m.isAway = false) : confirmDecision kind level m = .issue := by
  rw [confirmDecision, ha, hm]
  rfl

theorem confirmDecision_hold {kind : OpKind} {level : Level} {m : MonState} (ha : admits kind level = true)
    (hm : m.isAway = true) : confirmDecision kind level m = .hold := by
  rw [confirmDecision, ha, hm]
  rfl

theorem confirmDecision_refuse {kind : OpKind} {level : Level} {m : MonState} (ha : ¬admits kind level = true) :
    confirmDecision kind level m = .refuse := if_neg ha

/-! ### What the decision does -/

theorem confirm_issue {k : ModuleId} {c : Confirm} {close : ChannelCode}
    (h : confirmDecision c.kind s.gauge.level s.mon.state = .issue) :
    s.confirm k c close =
      { s with
        ports := { s.ports with moduleCycles := s.ports.moduleCycles ++ [.code k close.byte] }
        arb := { s.arb with gapFrom := none }
        ret :=
          { s.ret with
            slots := s.ret.slots.set k
              { state := .issued, kind := some c.kind, block := some c.block, page := c.page, tagged := c.tagged,
                writeSeq := c.writeSeq, level := some s.gauge.level, holdStart := none, cause := none, exposure := none,
                busyMs := 0, last := (s.slotRec k).last } }
        slots := s.slots.set k
          { state := .issued, step := some .busy, suspendFlag := false, issueMs := some (s.now / 1000), timerValue := 0,
            timerFrom := some (s.now / 1000), keptReturn := false } } := by
  rw [State.confirm, State.takeConfirm, h]
  rfl

theorem confirm_refuse {k : ModuleId} {c : Confirm} {close : ChannelCode}
    (h : confirmDecision c.kind s.gauge.level s.mon.state = .refuse) (free : (s.slotRec k).state = .free) :
    s.confirm k c close =
      ({ s with
        ret :=
          { s.ret with
            slots := s.ret.slots.set k
              { s.slotRec k with
                kind := some c.kind, block := some c.block, page := c.page, tagged := c.tagged, writeSeq := c.writeSeq,
                holdStart := none, cause := none, exposure := none, busyMs := 0, last := some .refused } }
        relay := { s.relay with readyFail := s.relay.readyFail.set k true }
        causes := s.causes ||| 16 } : State).count c.kind.refusals := by
  rw [State.confirm, State.takeConfirm, h, ← free]
  rfl

theorem changeOpenRec_of_some {n : Nat} (h : s.mon.openRec = some n) (f : ShockRec → ShockRec) :
    s.changeOpenRec f = s.changeShock n f := by
  rw [State.changeOpenRec, h]

/-- Its module is counted as held once while a record is open (R72). -/
theorem countHeld_eq {k : ModuleId} {n : Nat} (h : s.mon.openRec = some n) :
    s.countHeld k =
      { s with
        ret :=
          { s.ret with
            shocks :=
              if k ∈ s.mon.heldCounted then s.ret.shocks
              else s.ret.shocks.map fun r =>
                if r.number = n ∧ r.isOpen = true then { r with held := r.held + 1 } else r }
        mon :=
          if k ∈ s.mon.heldCounted then s.mon else { s.mon with heldCounted := s.mon.heldCounted ++ [k] } } := by
  have taken : (s.mon.openRec.isNone || s.mon.heldCounted.contains k) = decide (k ∈ s.mon.heldCounted) := by
    rw [h, Option.isNone_some, Bool.false_or, List.contains_eq_mem]
  rw [State.countHeld, taken, changeOpenRec_of_some h]
  by_cases counted : k ∈ s.mon.heldCounted
  · simp only [counted, decide_true, if_true]
  · simp only [counted, decide_false, Bool.false_eq_true, if_false]
    rfl

theorem confirm_hold {k : ModuleId} {c : Confirm} {close : ChannelCode}
    (h : confirmDecision c.kind s.gauge.level s.mon.state = .hold) :
    s.confirm k c close =
      ({ s with
        ret :=
          { s.ret with
            slots := s.ret.slots.set k
              { state := .held, kind := some c.kind, block := some c.block, page := c.page, tagged := c.tagged,
                writeSeq := c.writeSeq, level := some s.gauge.level, holdStart := some (s.now / 1000), cause := none,
                exposure := none, busyMs := 0, last := (s.slotRec k).last } }
        slots := s.slots.set k
          { state := .held, step := some .waiting, suspendFlag := (s.slotLive k).suspendFlag, issueMs := none,
            timerValue := 0, timerFrom := none, keptReturn := false }
        releaseQueue := s.releaseQueue ++ [k]
        counters := { s.counters with holds := min (s.counters.holds + 1) 65535 } } : State).countHeld k := by
  rw [State.confirm, State.takeConfirm, h]
  rfl

/-! ### The close code -/

theorem nestedEnded_of_none (h : s.relay.nested = none) : s.nestedEnded = s := by
  rw [State.nestedEnded, h]

/-- The close code of a passed-through erase (R7, R83). -/
theorem exec_eraseClose (hp : s.phase = .running) (h : s.InSequence q) (hh : q.handling = .passed) (hc : q.closeTaken = false)
    (hk : q.kind = .erase) :
    exec .eraseClose s =
      .next (s.begin.confirm q.module { kind := .erase, block := q.addr.block, page := none, tagged := false, writeSeq := none }
        .eraseClose).endSequence := by
  obtain ⟨absorb, nested, seq⟩ := h
  have taken : exec .eraseClose s = .next (s.nestedEnded.begin.closeErase { q with closeTaken := true }) :=
    congrArg Host.Outcome.next (hk ▸ serving_closeCode hp absorb seq (by rw [hh]; nofun) hc State.closeErase)
  rw [taken, nestedEnded_of_none nested, State.closeErase, hh]
  rfl

/-- The state in which a program is confirmed, its tag completed (R32, R33). -/
def State.tagSent (s : State) (p : TagProgram) : State :=
  { s with
    ret := { s.ret with writeSeq := (s.tagCompletion p).2.2 }
    arb := if p.tagged then { s.arb with gapFrom := none } else s.arb
    ports := ⟨(s.tagCompletion p).1, none, []⟩ }

/-- The close code of a passed-through program (R7, R33, R83). -/
theorem exec_programClose (hp : s.phase = .running) (h : s.InSequence q) (hh : q.handling = .passed) (hc : q.closeTaken = false)
    (hk : q.kind = .program) {p : TagProgram} (ht : s.tag.program = some p) :
    exec .programClose s =
      .next ((s.tagSent p).confirm q.module
        { kind := .program, block := p.block, page := some p.page, tagged := p.tagged
          writeSeq := (s.tagCompletion p).2.1 } .programClose).endSequence := by
  obtain ⟨absorb, nested, seq⟩ := h
  obtain ⟨sent, confirm⟩ := State.completeTag_eq s.begin p
  have taken : exec .programClose s = .next (s.nestedEnded.begin.closeProgram { q with closeTaken := true }) :=
    congrArg Host.Outcome.next (hk ▸ serving_closeCode hp absorb seq (by rw [hh]; nofun) hc State.closeProgram)
  have program : s.begin.tag.program = some p := ht
  rw [taken, nestedEnded_of_none nested, State.closeProgram, hh, program]
  simp only [confirm, sent]
  rfl

theorem leaveSequence_program (hh : q.handling = .passed) (hk : q.kind = .program) : s.leaveSequence q = s.setProgram none := by
  rw [State.leaveSequence, hh, hk]

theorem leaveSequence_erase (hh : q.handling = .passed) (hk : q.kind = .erase) : s.leaveSequence q = s := by
  rw [State.leaveSequence, hh, hk]

/-! ### The three decisions -/

/-- Settles O28: an admitted confirm in CALM or BLIND is issued. -/
theorem confirmIsIssued : Obligations.ConfirmIsIssued := by
  intro s q hp h hh hc hm
  have near := (isAway_eq_false s.mon.state).2 hm
  refine ⟨fun p hk level ht => ?_, fun hk level => ?_⟩
  · rw [exec_programClose hp h hh hc hk ht,
      confirm_issue (s := s.tagSent p) (confirmDecision_issue (admits_program.2 level) near),
      endSequence_of_leave (q := q) ?_ (leaveSequence_program hh hk), State.tagSent]
    · cases p.tagged <;> rfl
    · exact h.2.2
  · rw [exec_eraseClose hp h hh hc hk,
      confirm_issue (s := s.begin) (confirmDecision_issue (admits_erase.2 level) near),
      endSequence_of_leave (q := q) ?_ (leaveSequence_erase hh hk)]
    · rfl
    · exact h.2.2

/-- Settles O29: an admitted confirm away from CALM is held, its module counted by the open record. -/
theorem confirmIsHeld : Obligations.ConfirmIsHeld := by
  intro s q n hp h hh hc hm hn
  have away := (isAway_iff s.mon.state).2 hm
  refine ⟨fun p hk level ht => ?_, fun hk level => ?_⟩
  · rw [exec_programClose hp h hh hc hk ht,
      confirm_hold (s := s.tagSent p) (confirmDecision_hold (admits_program.2 level) away), countHeld_eq (n := n) ?_,
      endSequence_of_leave (q := q) ?_ (leaveSequence_program hh hk)]
    · rfl
    · exact h.2.2
    · exact hn
  · rw [exec_eraseClose hp h hh hc hk,
      confirm_hold (s := s.begin) (confirmDecision_hold (admits_erase.2 level) away), countHeld_eq (n := n) ?_,
      endSequence_of_leave (q := q) ?_ (leaveSequence_erase hh hk)]
    · rfl
    · exact h.2.2
    · exact hn

/-- Settles O30: a confirm that its level rules out is refused. -/
theorem confirmIsRefusedByLevel : Obligations.ConfirmIsRefusedByLevel := by
  intro s q hp h hh hc free
  refine ⟨fun hk level => ?_, fun p hk level ht => ?_⟩
  · have refused : ¬admits .erase s.gauge.level = true := fun ha => by
      rcases level with level | level <;> rw [level] at ha <;> exact absurd ha (by decide)
    rw [exec_eraseClose hp h hh hc hk, confirm_refuse (s := s.begin) (confirmDecision_refuse refused) free,
      endSequence_of_leave (q := q) ?_ (leaveSequence_erase hh hk)]
    · rfl
    · exact h.2.2
  · have refused : ¬admits .program s.gauge.level = true := fun ha => admits_program.1 ha level
    rw [exec_programClose hp h hh hc hk ht, confirm_refuse (s := s.tagSent p) (confirmDecision_refuse refused) free,
      endSequence_of_leave (q := q) ?_ (leaveSequence_program hh hk)]
    · rfl
    · exact h.2.2

end Sys2Proof.Machine
end

section
/-! PROOFS. Ready returns, the busy limits and the hold limit (R9, R13 to R16, R82, R86, R89, R97, R99, R144, R145). -/

namespace Sys2Proof.Machine

variable {s : State} {k : ModuleId}

/-! ### A module's ready return (R16, R97) -/

theorem readyReturn_read (h : s.relay.readBusy.get k ≠ none) :
    s.readyReturn k = s.onRelay fun r => { r with readBusy := r.readBusy.set k none } :=
  if_pos (Option.isSome_iff_ne_none.2 h)

theorem readyReturn_reset (hr : s.relay.readBusy.get k = none) (h : s.relay.resetBusy.get k ≠ none) :
    s.readyReturn k =
      s.onRelay fun r =>
        { r with
          resetBusy := r.resetBusy.set k none, stuck := r.stuck.set k false, readyFail := r.readyFail.set k false } := by
  rw [State.readyReturn, hr]
  exact if_pos (Option.isSome_iff_ne_none.2 h)

theorem readyReturn_residual (hr : s.relay.readBusy.get k = none) (hs : s.relay.resetBusy.get k = none)
    (h : s.relay.residual.get k ≠ none) :
    s.readyReturn k = s.onRelay fun r => { r with residual := r.residual.set k none } := by
  rw [State.readyReturn, hr, hs]
  exact if_pos (Option.isSome_iff_ne_none.2 h)

theorem readyReturn_slot (hr : s.relay.readBusy.get k = none) (hs : s.relay.resetBusy.get k = none)
    (h : s.relay.residual.get k = none) : s.readyReturn k = s.slotReturn k := by
  rw [State.readyReturn, hr, hs, h]
  rfl

theorem slotLive_of {state : SlotState} {step : Option SlotStep} (hs : (s.slotLive k).state = state)
    (hstep : (s.slotLive k).step = step) : s.slotLive k = { s.slotLive k with state := state, step := step } := by
  rw [← hs, ← hstep]

theorem slotReturn_atWork (hs : (s.slotLive k).state = .issued)
    (hstep : (s.slotLive k).step = some .busy ∨ (s.slotLive k).step = some .suspending) :
    s.slotReturn k =
      (s.request k .statusCheck).setSlotLive k { (s.slotLive k).stopTimer s.ms with step := some .checking } := by
  rw [State.slotReturn, hs]
  rcases hstep with hstep | hstep <;> rw [hstep]

theorem slotReturn_onItsWay (h : (s.slotLive k).state = .held ∧ (s.slotLive k).step = some .releasing
      ∨ (s.slotLive k).state = .suspended ∧ (s.slotLive k).step = some .resuming ∧ s.isRunning k .resume = true) :
    s.slotReturn k = s.setSlotLive k { s.slotLive k with keptReturn := true } := by
  rw [State.slotReturn]
  rcases h with ⟨state, step⟩ | ⟨state, step, runs⟩
  · rw [slotLive_of state step]
  · rw [slotLive_of state step]
    exact if_pos runs

theorem slotReturn_none
    (work : ¬((s.slotLive k).state = .issued
      ∧ ((s.slotLive k).step = some .busy ∨ (s.slotLive k).step = some .suspending)))
    (way : ¬((s.slotLive k).state = .held ∧ (s.slotLive k).step = some .releasing
      ∨ (s.slotLive k).state = .suspended ∧ (s.slotLive k).step = some .resuming ∧ s.isRunning k .resume = true)) :
    s.slotReturn k = s := by
  unfold State.slotReturn
  dsimp only
  split
  · exact absurd ⟨‹_›, .inl ‹_›⟩ work
  · exact absurd ⟨‹_›, .inr ‹_›⟩ work
  · exact absurd (.inl ⟨‹_›, ‹_›⟩) way
  · split
    · exact absurd (.inr ⟨‹_›, ‹_›, ‹_›⟩) way
    · rfl
  · rfl

/-- Settles O31: the first that waits on the return takes it. -/
theorem readyReturnGoesToWhatWaits : Obligations.ReadyReturnGoesToWhatWaits := by
  intro s k hp
  have taken : exec (.moduleReadyReturn k) s = .next (s.begin.readyReturn k) := congrArg _ (State.serving_running hp _)
  rw [taken]
  refine ⟨fun read => ?_, fun read reset => ?_, fun read reset => ⟨fun residual => ?_,
    fun residual => ⟨fun ⟨state, step⟩ => ?_, fun way => ?_, fun work way => ?_⟩⟩⟩
  · rw [readyReturn_read (s := s.begin) read]
    rfl
  · rw [readyReturn_reset (s := s.begin) read reset]
    rfl
  · rw [readyReturn_residual (s := s.begin) read reset residual]
    rfl
  · rw [readyReturn_slot (s := s.begin) read reset residual, slotReturn_atWork (s := s.begin) state step]
    rfl
  · rw [readyReturn_slot (s := s.begin) read reset residual,
      slotReturn_onItsWay (s := s.begin) (way.imp_right fun ⟨state, step, runs⟩ => ⟨state, step, isRunning_iff.2 runs⟩)]
    rfl
  · rw [readyReturn_slot (s := s.begin) read reset residual,
      slotReturn_none (s := s.begin) work fun h =>
        way (h.imp_right fun ⟨state, step, runs⟩ => ⟨state, step, isRunning_iff.1 runs⟩)]
    rfl

/-! ### Busy limits (R9, R13, R15) -/

theorem timeOutRead_apart
    (h : ∀ q, s.relay.seq = some q → q.module ≠ k ∨ q.kind ≠ .read ∨ q.handling ≠ .passed ∨ q.closeTaken = false) :
    s.timeOutRead k = s := by
  unfold State.timeOutRead
  split
  case h_1 q seq =>
    refine if_neg fun ⟨module, kind, passed, closed⟩ => ?_
    rcases h q seq with h | h | h | h
    · exact h module
    · exact h kind
    · exact h passed
    · exact absurd (h.symm.trans closed) Bool.false_ne_true
  case h_2 => rfl

theorem timeOutRead_open {q : Seq} {r : TagRead} (hq : s.relay.seq = some q) (hm : q.module = k) (hk : q.kind = .read)
    (hh : q.handling = .passed) (hc : q.closeTaken = true) (hr : s.tag.read = some r) :
    s.timeOutRead k =
      { s with
        relay := { s.relay with seq := some { q with timedOut := true } }
        tag := { s.tag with read := some { r with settled := true } }
        counters :=
          if r.settled then s.counters else { s.counters with skipped := min (s.counters.skipped + 1) 65535 } } := by
  have taken : s.timeOutRead k = s.readEnds.setSeq (some { q with timedOut := true }) := by
    rw [State.timeOutRead, hq]
    exact if_pos ⟨hm, hk, hh, hc⟩
  rw [taken, State.readEnds_of_some s hr]
  cases settled : r.settled with
  | true =>
    have same : { r with settled := true } = r := by rw [← settled]
    rw [same, ← hr]
    rfl
  | false => rfl

/-- Settles O32: each limit ends its own busy period; a read that is still open is timed out with it. -/
theorem busyLimitMakesTheModuleStuck : Obligations.BusyLimitMakesTheModuleStuck := by
  intro s k due hp ahead
  have now : max s.now due = due := Nat.max_eq_right ahead
  refine ⟨fun busy => ?_, fun busy => ?_, fun busy => ?_⟩
  · have taken : exec (.readBusyTimeout k) s =
        .next (((((s.begin.runTo due).onRelay fun r => { r with readBusy := r.readBusy.set k none })).makeStuck k).timeOutRead k) := by
      simp only [exec, execReadBusyTimeout, State.serving_running hp, State.begin_relay, busy]
    rw [taken, State.makeStuck_eq, State.runTo, show max s.begin.now due = due from now]
    refine ⟨fun apart => ?_, fun q r hq hm hk hh hc hr => ?_⟩
    · rw [timeOutRead_apart (by exact apart)]
      rfl
    · rw [timeOutRead_open (q := q) (r := r) (by exact hq) hm hk hh hc (by exact hr)]
      rfl
  · simp only [exec, execResetBusyTimeout, State.serving_running hp, State.begin_relay, busy]
    rw [State.makeStuck_eq, State.runTo, show max s.begin.now due = due from now]
    rfl
  · simp only [exec, execResidualBusyTimeout, State.serving_running hp, State.begin_relay, busy]
    rw [State.makeStuck_eq, State.runTo, show max s.begin.now due = due from now]
    rfl

/-! ### The busy timer of a slot (R82, R99) and the suspect list's answer to an entry (R144, R145) -/

theorem addSuspect_merges {l : List Suspect} {overflow : Nat} {e x : Suspect} (h : findSuspect l e.key = some x) :
    addSuspect l overflow e =
      (l.map fun y => if y.key = e.key then (if x.reason.code ≤ e.reason.code then e else x) else y, overflow, false) := by
  have key : (mergeSuspect x e).key = e.key := by
    rw [mergeSuspect]
    split
    · rfl
    · exact (findSuspect_some h).2
  rw [addSuspect, h]
  simp only [replaceSuspect, key]
  rfl

theorem addSuspect_new {l : List Suspect} {overflow : Nat} {e : Suspect} (h : ∀ x ∈ l, x.key ≠ e.key) :
    addSuspect l overflow e = if l.length < 48 then (l ++ [e], overflow, false) else (l, min (overflow + 1) 255, true) := by
  rw [addSuspect, findSuspect_none.2 h]
  rfl

theorem busyMs_stopped {l : SlotLive} (ms : Nat) (h : l.timerFrom = none) : l.busyMs ms = min l.timerValue 65535 := by
  rw [SlotLive.busyMs, h]

theorem busyMs_running {l : SlotLive} (ms : Nat) {start : Nat} (h : l.timerFrom = some start) :
    l.busyMs ms = min (l.timerValue + (ms - start)) 65535 := by
  rw [SlotLive.busyMs, h]

/-- The close of a slot by a timeout, with its entry handed and its module STUCK (R14, R99, R101, R102). -/
theorem closeSlot_timedOut_makeStuck (s : State) (k : ModuleId) :
    (s.closeSlot k .timedOut).makeStuck k =
      let list := addSuspect s.ret.suspects s.ret.overflow ((s.slotRec k).entry k .timedOut s.clock.stamp)
      let causes := if list.2.2 then s.causes ||| 128 else s.causes
      { s with
        ret :=
          { s.ret with
            slots := s.ret.slots.set k
              { s.slotRec k with
                state := .free, last := some .timedOut, busyMs := (s.slotLive k).busyMs (s.now / 1000) }
            suspects := list.1
            overflow := list.2.1 }
        slots := s.slots.set k
          { s.slotLive k with state := .free, step := none, issueMs := none, timerFrom := none, keptReturn := false }
        releaseQueue := s.releaseQueue.filter fun m => decide (m ≠ k)
        relay := { s.relay with stuck := s.relay.stuck.set k true, readyFail := s.relay.readyFail.set k true }
        causes := if s.relay.stuck.get k then causes else causes ||| 64
        counters := { s.counters with timeout := min (s.counters.timeout + 1) 65535 } } := by
  rw [State.makeStuck_eq, closeSlot_handing _ k (reason := .timedOut) (by decide) fun _ => rfl]
  rfl

/-- Settles O33: only an ISSUED slot with a running timer times out; the list's answer to its entry is that to any other. -/
theorem busyTimerExpiryClosesTimedOut : Obligations.BusyTimerExpiryClosesTimedOut := by
  refine ⟨fun s k hp => ⟨fun start issued runs => ?_, fun other => ?_⟩, fun l overflow e =>
    ⟨fun x => addSuspect_merges, addSuspect_new, fun l ms => ⟨busyMs_stopped ms, fun start => busyMs_running ms⟩⟩⟩
  · have taken : exec (.busyTimerExpiry k) s =
        .next ((((s.begin.runTo (1000 * (s.slotLive k).expiryMs start (s.slotRec k).limitMs)).withdraw k).closeSlot k
          .timedOut).makeStuck k) := by
      simp only [exec, execBusyTimerExpiry, State.serving_running hp, State.begin_slotLive, State.begin_slotRec, issued, runs]
    rw [taken, closeSlot_timedOut_makeStuck, SlotLive.expiryMs, limitMs_eq]
    rfl
  · have taken : exec (.busyTimerExpiry k) s = .next s.begin := by
      simp only [exec, execBusyTimerExpiry, State.serving_running hp, State.begin_slotLive]
      split
      · rename_i issued runs
        rcases other with h | h
        · exact absurd issued h
        · cases h.symm.trans runs
      · rfl
    rw [taken]
    rfl

/-! ### The hold limit (R86, R89) -/

theorem queueRequest_absent {q : List Insert} {e : Insert} (h : ∀ x ∈ q, x.module ≠ e.module) : queueRequest q e = q ++ [e] := by
  refine if_neg fun any => ?_
  obtain ⟨x, mem, same⟩ := List.any_eq_true.1 any
  exact h x mem (of_decide_eq_true same)

theorem releaseSlot_waiting (hs : (s.slotLive k).state = .held) (hstep : (s.slotLive k).step = some .waiting)
    (cause : ReleaseCause) :
    s.releaseSlot k cause =
      (s.request k .release (some cause)).setSlotLive k { s.slotLive k with step := some .releaseQueued } := by
  rw [State.releaseSlot, slotLive_of hs hstep]

/-- Settles O34: the slot waits, so its release is requested at the tail. -/
theorem holdLimitReleasesTheSlot : Obligations.HoldLimitReleasesTheSlot := by
  intro s k start hp held waiting hold absent
  have waits : s.begin.isWaiting k = true := isWaiting_iff.2 ⟨held, waiting⟩
  have taken : exec (.holdLimitExpiry k) s =
      .next ((s.begin.runTo (1000 * (start + s.ret.settings.holdLimit.toNat + 1))).breakHold k) := by
    simp only [exec, execHoldLimitExpiry, State.serving_running hp, waits, if_true, State.begin_slotRec, hold,
      Option.getD_some, State.begin_ret]
  rw [taken, State.breakHold, releaseSlot_waiting (by exact held) (by exact waiting), State.request, State.onArb,
    queueRequest_absent (by exact absent)]
  rfl

end Sys2Proof.Machine
end

section
/-! PROOFS. The start of an insert and its completion (R20 to R22, R72, R73, R81, R87, R88, R93 to R103, R151). -/

namespace Sys2Proof.Machine

variable {s : State} {k : ModuleId}

/-! ### The start of an insert (R21, R22) -/

theorem runTo_reached {t : Nat} (h : t ≤ s.now) : s.runTo t = s := by
  rw [State.runTo, Nat.max_eq_left h]

theorem closeCode_byte (r : SlotRec) : r.closeCode.byte = if r.kind = some .erase then 0x1E else 0x1B := by
  unfold SlotRec.closeCode SlotRec.isErase
  by_cases h : r.kind = some .erase
  · rw [if_pos (decide_eq_true h), if_pos h]
    rfl
  · rw [if_neg (by simpa using h), if_neg h]
    rfl

/-- Its module is counted as exposed once (R72). -/
theorem countExposed_eq {n : Nat} (h : s.mon.openRec = some n) :
    s.countExposed k =
      { s with
        ret :=
          { s.ret with
            shocks := s.ret.shocks.map fun x =>
              if k ∉ s.mon.exposedCounted ∧ x.number = n ∧ x.isOpen = true then { x with exposed := x.exposed + 1 } else x }
        mon :=
          { s.mon with exposedCounted := s.mon.exposedCounted ++ if k ∈ s.mon.exposedCounted then [] else [k] } } := by
  rw [State.countExposed, List.contains_eq_mem, changeOpenRec_of_some h]
  by_cases counted : k ∈ s.mon.exposedCounted
  · simp only [counted, decide_true, if_true, not_true_eq_false, false_and, if_false, List.map_id', List.append_nil]
  · simp only [counted, decide_false, Bool.false_eq_true, if_false, not_false_eq_true, true_and]
    rfl

/-- The exposure of a slot that carries none, to the monitor's open record (R73). -/
theorem markExposed_bare {n : Nat} (hn : s.mon.openRec = some n) (hx : (s.slotRec k).exposure = none) (offset : Nat) :
    s.markExposed k offset =
      (s.setSlotRec k
        { s.slotRec k with exposure := some { record := n, offset := min offset 65535 } }).countExposed k := by
  rw [State.markExposed, hn, hx]

theorem markExposed_carried {x : Exposure} (hx : (s.slotRec k).exposure = some x) (offset : Nat) :
    s.markExposed k offset = s := by
  rw [State.markExposed, hx]
  cases s.mon.openRec <;> rfl

theorem exec_insertStart {e : Insert} {rest : List Insert} (hp : s.phase = .running) (hq : s.arb.queue = e :: rest)
    (hs : s.relay.seq = none) (hw : s.wait = false) (hg : ∀ g, s.arb.gapFrom = some g → g + 2 ≤ s.now) :
    exec .insertStart s = .next (s.begin.startInsert e rest) := by
  have free : s.begin.busFree = true := busFree_iff.2 ⟨hs, hw⟩
  simp only [exec, execInsertStart, State.serving_running hp, State.begin_arb, hq, free, if_true]
  rw [runTo_reached (s := s.begin) (gapEnd_le_iff.2 hg)]

/-- The part once the arbiter has driven the head insert's cycles. -/
def State.insertDriven (s : State) (e : Insert) (rest : List Insert) (cycles : List ModuleCycle) : State :=
  { s with ports := ⟨cycles, none, []⟩, arb := { s.arb with queue := rest, running := some e } }

theorem startInsert_statusCheck {e : Insert} (hk : e.kind = .statusCheck) (rest : List Insert) :
    s.begin.startInsert e rest = s.insertDriven e rest [.code e.module 0x0C, .strobe e.module] := by
  rw [State.startInsert, State.insertCycles, hk]
  rfl

theorem startInsert_suspend {e : Insert} (hk : e.kind = .suspend) (rest : List Insert) :
    s.begin.startInsert e rest = s.insertDriven e rest [.code e.module 0x06] := by
  rw [State.startInsert, State.insertCycles, hk]
  rfl

theorem startInsert_resume {e : Insert} (hk : e.kind = .resume) (rest : List Insert) :
    s.begin.startInsert e rest = (s.insertDriven e rest [.code e.module 0x07]).startResume e.module := by
  rw [State.startInsert, State.insertCycles, hk]
  rfl

theorem startInsert_release {e : Insert} (hk : e.kind = .release) (rest : List Insert) :
    s.begin.startInsert e rest =
      (s.insertDriven e rest [.code e.module (if (s.slotRec e.module).kind = some .erase then 0x1E else 0x1B)]).startRelease
        e.module e.cause := by
  rw [State.startInsert, State.insertCycles, hk, ← closeCode_byte]
  rfl

/-- A HELD slot once its RELEASE has started, before any exposure (R87, R88). -/
def State.releaseStarted (s : State) (k : ModuleId) (cause : Option ReleaseCause) : State :=
  { s with
    ret := { s.ret with slots := s.ret.slots.set k { s.slotRec k with state := .issued, cause := cause, busyMs := 0 } }
    slots := s.slots.set k
      { s.slotLive k with
        step := some .releasing, suspendFlag := false, issueMs := some (s.now / 1000), timerValue := 0,
        timerFrom := some (s.now / 1000), keptReturn := false } }

theorem startRelease_held (h : (s.slotLive k).state = .held) (cause : Option ReleaseCause) :
    s.startRelease k cause =
      if s.mon.state.isAway then (s.releaseStarted k cause).markExposed k 0 else s.releaseStarted k cause :=
  if_pos h

theorem releaseStarted_slotRec (s : State) (k : ModuleId) (cause : Option ReleaseCause) :
    (s.releaseStarted k cause).slotRec k = { s.slotRec k with state := .issued, cause := cause, busyMs := 0 } :=
  PerModule.get_set_self ..

theorem releaseStarted_set (s : State) (k : ModuleId) (cause : Option ReleaseCause) (r : SlotRec) :
    (s.releaseStarted k cause).setSlotRec k r =
      { s.releaseStarted k cause with ret := { s.ret with slots := s.ret.slots.set k r } } := by
  rw [← PerModule.set_set s.ret.slots k { s.slotRec k with state := .issued, cause := cause, busyMs := 0 } r]
  rfl

/-- A RELEASE exposes its slot in a fall alone, and only one that carries no exposure yet (R87, R73). -/
theorem startRelease_quiet (h : (s.slotLive k).state = .held)
    (hm : s.mon.state = .calm ∨ s.mon.state = .blind ∨ (s.slotRec k).exposure ≠ none) (cause : Option ReleaseCause) :
    s.startRelease k cause = s.releaseStarted k cause := by
  rw [startRelease_held h]
  rcases hm with calm | blind | exposed
  · rw [calm]
    rfl
  · rw [blind]
    rfl
  · obtain ⟨x, hx⟩ := Option.ne_none_iff_exists'.1 exposed
    rw [markExposed_carried (x := x) (by rw [releaseStarted_slotRec]; exact hx), ite_self]

/-- Settles O35: by the kind of the head insert, and for a RELEASE by the monitor's state. -/
theorem insertStartRunsTheHead : Obligations.InsertStartRunsTheHead := by
  intro s e rest hp hq hs hw hg
  rw [exec_insertStart hp hq hs hw hg]
  refine ⟨fun cycles => ?_, fun hk => ?_, fun hk => ?_, fun hk held => ⟨fun quiet => ?_, fun n away hn bare => ?_⟩,
    fun hk suspended => ?_⟩
  · exact wait_iff.2 (.inr ⟨hp, .inl nofun⟩)
  · rw [startInsert_statusCheck hk]
    rfl
  · rw [startInsert_suspend hk]
    rfl
  · rw [startInsert_release hk, startRelease_quiet (by exact held) (by exact quiet)]
    rfl
  · rw [startInsert_release hk, startRelease_held (by exact held), if_pos ((isAway_iff _).2 (by exact away)),
      markExposed_bare (n := n) (by exact hn) (by rw [releaseStarted_slotRec]; exact bare), releaseStarted_set,
      countExposed_eq (n := n) (by exact hn), releaseStarted_slotRec]
    rfl
  · rw [startInsert_resume hk, State.startResume, if_pos (by exact suspended)]
    rfl

end Sys2Proof.Machine
end

section
/-! PROOFS. The completion of an insert: the STATUS_CHECK that settles its slot, and the SUSPEND, RESUME and RELEASE that move theirs
on (R20, R88, R93 to R98, R101 to R103, R134, R142, R143, R151). -/

namespace Sys2Proof.Machine

variable {s : State} {k : ModuleId}

/-! ### The close of a slot that is DONE or FAILED (R101 to R103, R151) -/

theorem closeSlot_failed (s : State) (k : ModuleId) :
    s.closeSlot k .failed = (s.slotClosed k .failed).requestHanded ((s.slotRec k).entry k .failed s.clock.stamp) :=
  closeSlot_handing s k (by decide) fun _ => rfl

theorem removeBlock_eq (s : State) (k : ModuleId) (block : BitVec 11) :
    s.removeBlock k block =
      { s with
        ret :=
          { s.ret with
            suspects := s.ret.suspects.filter fun x => decide (x.key.module ≠ k ∨ x.key.block ≠ block) } } := by
  have same (x : Suspect) : (!(decide (x.key.module = k) && decide (x.key.block = block))) =
      decide (x.key.module ≠ k ∨ x.key.block ≠ block) := by
    rw [← Bool.decide_and, ← decide_not, decide_eq_decide, not_and_or]
  simp only [State.removeBlock, same]
  rfl

/-- A close is its record and its volatile part written, then its entry handed or its block cleared. -/
theorem closeSlot_closed (s : State) (k : ModuleId) (o : SlotOutcome) :
    s.closeSlot k o =
      let handed := (closeReason o (s.slotRec k).exposure.isSome).elim (s.slotClosed k o) fun reason =>
        (s.slotClosed k o).handRequest ((s.slotRec k).entry k reason s.clock.stamp) true
      if o = .done ∧ (s.slotRec k).isErase = true ∧ (s.slotRec k).exposure.isNone = true then
        handed.removeBlock k ((s.slotRec k).block.getD 0)
      else handed := by
  unfold State.closeSlot
  dsimp only
  cases closeReason o (s.slotRec k).exposure.isSome <;> rfl

theorem closeSlot_done (s : State) (k : ModuleId) :
    s.closeSlot k .done =
      if (s.slotRec k).exposure ≠ none then
        (s.slotClosed k .done).requestHanded ((s.slotRec k).entry k .exposed s.clock.stamp)
      else if (s.slotRec k).kind = some .erase then (s.slotClosed k .done).removeBlock k ((s.slotRec k).block.getD 0)
      else s.slotClosed k .done := by
  rw [closeSlot_closed, ← handRequest_open _ rfl]
  rcases hx : (s.slotRec k).exposure with _ | x
  · simp only [SlotRec.isErase, decide_eq_true_eq, Option.isNone_none, and_true, true_and, ne_eq, not_true_eq_false, if_false]
    rfl
  · simp only [Option.isNone_some, Bool.false_eq_true, and_false, if_false, ne_eq, reduceCtorEq, not_false_eq_true, if_true]
    rfl

/-! ### A STATUS_CHECK (R95, R98) -/

theorem runningOf_of {e : Insert} {kind : InsertKind} (h : s.arb.running = some e) (hk : e.kind = kind) :
    s.runningOf kind = some e.module := by
  rw [State.runningOf, h]
  exact if_pos hk

theorem exec_statusCheckComplete {e : Insert} (hp : s.phase = .running) (h : s.arb.running = some e) (hk : e.kind = .statusCheck)
    (b : Byte) : exec (.statusCheckComplete b) s = .next (s.begin.insertEnds.statusReport e.module b) := by
  have runs : s.begin.runningOf .statusCheck = some e.module := runningOf_of (s := s.begin) h hk
  simp only [exec, execStatusCheckComplete, State.serving_running hp, runs]

theorem statusReport_check (hs : (s.slotLive k).state = .issued) (hstep : (s.slotLive k).step = some .checking)
    (hf : (s.slotLive k).suspendFlag = false) (b : Byte) : s.statusReport k b = s.settleCheck k b := by
  simp only [State.statusReport, hs, hstep, hf, Bool.false_and, Bool.false_eq_true, if_false, Bool.not_false, decide_true,
    Bool.and_self, if_true]

theorem statusReport_suspension (hs : (s.slotLive k).state = .issued ∨ (s.slotLive k).state = .suspended)
    (hf : (s.slotLive k).suspendFlag = true)
    (hstep : (s.slotLive k).step = some .suspending ∨ (s.slotLive k).step = some .checking
      ∨ (s.slotLive k).step = some .rechecking) (b : Byte) : s.statusReport k b = s.settleSuspension k b := by
  obtain ⟨step, hstep, takes⟩ : ∃ step, (s.slotLive k).step = some step ∧ step.takesSuspension = true := by
    rcases hstep with h | h | h <;> exact ⟨_, h, rfl⟩
  rcases hs with hs | hs <;>
    simp only [State.statusReport, hs, hstep, hf, takes, Bool.and_self, if_true]

theorem settleCheck_ready (hb : statusReady b = true) :
    s.settleCheck k b = s.closeSlot k (if statusFail b then .failed else .done) := if_pos hb

theorem settleCheck_busy (hb : statusReady b = false) :
    s.settleCheck k b = s.setSlotLive k { (s.slotLive k).runTimer s.ms with step := some .busy } :=
  if_neg (Bool.eq_false_iff.1 hb)

theorem settleSuspension_ended (hb : statusSuspended b = false) :
    s.settleSuspension k b = s.closeSlot k (if statusFail b then .failed else .done) :=
  if_neg (Bool.eq_false_iff.1 hb)

/-- A suspended erase parked with its timer stopped (R95). -/
def State.parked (s : State) (k : ModuleId) (step : SlotStep) : State :=
  { s with
    ret :=
      { s.ret with
        slots := s.ret.slots.set k
          { s.slotRec k with state := .suspended, busyMs := (s.slotLive k).busyMs (s.now / 1000) } }
    slots := s.slots.set k
      { s.slotLive k with
        state := .suspended, step := some step, timerValue := (s.slotLive k).busyMs (s.now / 1000), timerFrom := none } }

theorem parked_slotLive (s : State) (k : ModuleId) (step : SlotStep) :
    (s.parked k step).slotLive k =
      { s.slotLive k with
        state := .suspended, step := some step, timerValue := (s.slotLive k).busyMs (s.now / 1000), timerFrom := none } :=
  PerModule.get_set_self ..

theorem settleSuspension_parks (hb : statusSuspended b = true) :
    s.settleSuspension k b =
      if s.mon.state.isAway then s.parked k .parked else (s.parked k .parked).resumeSlot k := if_pos hb

/-- The RESUME of an erase that has just been parked (R96). -/
theorem parked_resumeSlot (s : State) (k : ModuleId) :
    (s.parked k .parked).resumeSlot k =
      { s.parked k .resuming with arb := { s.arb with queue := requested s.arb.queue [k] .resume none } } := by
  have again (a b : SlotLive) : (s.slots.set k a).set k b = s.slots.set k b := PerModule.set_set ..
  rw [State.resumeSlot, parked_slotLive]
  simp only [State.request, State.setSlotLive, State.onSlots, State.onArb, State.parked, again]
  rfl

/-- Settles O36: the entry field by field, and the check by the suspend flag and the module's bits. -/
theorem statusCheckSettlesTheSlot : Obligations.StatusCheckSettlesTheSlot := by
  refine ⟨fun r k reason stamp => ⟨rfl, fun block h => ?_, rfl, rfl, rfl, fun h => ?_, fun h => ?_, fun x hx hr => ?_, fun h => ?_⟩,
    ?_⟩
  · simp only [SlotRec.entry, SlotRec.key, h, Option.getD_some]
  · have erase : r.isErase = true := decide_eq_true h
    simp only [SlotRec.entry, SlotRec.key, erase, Bool.true_or, if_true, and_self]
  · have program : r.isErase = false := by rw [SlotRec.isErase, h]; rfl
    simp only [SlotRec.entry, SlotRec.key, program, Bool.false_or, Bool.false_eq_true, if_false, true_and]
    cases r.tagged <;> rfl
  · simp only [SlotRec.entry, hr, hx, if_true, Option.map_some]
  · rcases h with h | h
    · simp only [SlotRec.entry, h, Option.map_none, ite_self]
    · simp only [SlotRec.entry, h, if_false]
  · rintro s k e b hp run rfl hk
    intro r l t closed handed done failed
    have taken := exec_statusCheckComplete hp run hk b
    have done_eq : s.begin.insertEnds.closeSlot e.module .done = done := by
      rw [closeSlot_done, removeBlock_eq]
      rfl
    have failed_eq : s.begin.insertEnds.closeSlot e.module .failed = failed := by
      rw [closeSlot_failed]
      rfl
    refine ⟨fun hs hstep hf => ?_, fun hs hf hstep => ?_⟩
    · have check := statusReport_check (s := s.begin.insertEnds) hs hstep hf b
      rw [taken, check]
      refine ⟨fun busy => ?_, fun ready pass => ?_, fun ready fail => ?_⟩
      · rw [settleCheck_busy busy]
        rfl
      · rw [settleCheck_ready ready, statusFail, pass, ← done_eq]
        rfl
      · rw [settleCheck_ready ready, statusFail, fail, ← failed_eq]
        rfl
    · have suspension := statusReport_suspension (s := s.begin.insertEnds) hs hf hstep b
      rw [taken, suspension]
      refine ⟨fun parks => ⟨fun away => ?_, fun near => ?_⟩, fun ended pass => ?_, fun ended fail => ?_⟩
      · rw [settleSuspension_parks parks, if_pos ((isAway_iff _).2 (by exact away))]
        rfl
      · have stays : ¬s.begin.insertEnds.mon.state.isAway = true := Bool.eq_false_iff.1 ((isAway_eq_false _).2 near)
        rw [settleSuspension_parks parks, if_neg stays, parked_resumeSlot]
        rfl
      · rw [settleSuspension_ended ended, statusFail, pass, ← done_eq]
        rfl
      · rw [settleSuspension_ended ended, statusFail, fail, ← failed_eq]
        rfl

/-! ### SUSPEND, RESUME and RELEASE completions (R88, R94, R96, R97) -/

theorem exec_suspendComplete {e : Insert} (hp : s.phase = .running) (h : s.arb.running = some e) (hk : e.kind = .suspend)
    (ready : Bool) : exec (.suspendComplete ready) s = .next (s.begin.insertEnds.suspendReport e.module ready) := by
  have runs : s.begin.runningOf .suspend = some e.module := runningOf_of (s := s.begin) h hk
  simp only [exec, execSuspendComplete, State.serving_running hp, runs]

theorem exec_resumeComplete {e : Insert} (hp : s.phase = .running) (h : s.arb.running = some e) (hk : e.kind = .resume) :
    exec .resumeComplete s = .next (s.begin.insertEnds.resumeReport e.module) := by
  have runs : s.begin.runningOf .resume = some e.module := runningOf_of (s := s.begin) h hk
  simp only [exec, execResumeComplete, State.serving_running hp, runs]

theorem exec_releaseComplete {e : Insert} (hp : s.phase = .running) (h : s.arb.running = some e) (hk : e.kind = .release) :
    exec .releaseComplete s = .next (s.begin.insertEnds.releaseReport e.module) := by
  have runs : s.begin.runningOf .release = some e.module := runningOf_of (s := s.begin) h hk
  simp only [exec, execReleaseComplete, State.serving_running hp, runs]

/-- A slot ISSUED again with no return kept: a SUSPEND requested meanwhile puts it in SUSPENDING (R88, R93). -/
theorem issuedAgain_working {l : SlotLive} (h : l.keptReturn = false) :
    s.issuedAgain k l =
      s.setSlotLive k
        { l with
          state := .issued
          step := some (if ∃ x ∈ s.arb.queue, x.module = k ∧ x.kind = .suspend then .suspending else .busy) } := by
  have step : (if s.isQueued k .suspend then some SlotStep.suspending else some .busy) =
      some (if ∃ x ∈ s.arb.queue, x.module = k ∧ x.kind = .suspend then .suspending else .busy) :=
    (if_congr isQueued_iff rfl rfl).trans (apply_ite some _ _ _).symm
  rw [State.issuedAgain, if_neg (Bool.eq_false_iff.1 h), step]

/-- A slot ISSUED again that kept a return takes it at once (R97). -/
theorem issuedAgain_returned {l : SlotLive} (h : l.keptReturn = true) :
    s.issuedAgain k l =
      (s.request k .statusCheck).setSlotLive k
        { l.stopTimer s.ms with state := .issued, step := some .checking, keptReturn := false } := if_pos h

/-- A timer that starts to count on and stops in the same ms keeps its value (R82). -/
theorem runTimer_stopTimer {l : SlotLive} (h : l.timerValue ≤ 65535) (ms : Nat) :
    (l.runTimer ms).stopTimer ms = { l with timerFrom := none } := by
  have value : (l.runTimer ms).busyMs ms = l.timerValue := by
    rw [busyMs_running (l := l.runTimer ms) ms rfl, Nat.sub_self]
    exact Nat.min_eq_left h
  rw [SlotLive.stopTimer, value]
  rfl

/-- Settles O37: each completion by its slot's state and what was requested or kept meanwhile. -/
theorem insertCompletionIsReported : Obligations.InsertCompletionIsReported := by
  intro s e hp run
  refine ⟨fun hk => ⟨?_, fun hs => ?_, fun hs => ?_, fun hs => ?_⟩, fun hk hs value => ⟨fun kept => ?_, fun kept => ?_⟩,
    fun hk hs => ⟨fun kept => ?_, fun kept => ?_⟩⟩
  · rw [exec_suspendComplete hp run hk]
    rfl
  · have hs : (s.begin.insertEnds.slotLive e.module).state = .issued := hs
    rw [exec_suspendComplete hp run hk, State.suspendReport, hs]
    rfl
  · have hs : (s.begin.insertEnds.slotLive e.module).state = .suspended := hs
    rw [exec_suspendComplete hp run hk, State.suspendReport, hs]
    rfl
  · have hs : (s.begin.insertEnds.slotLive e.module).state = .free := hs
    rw [exec_suspendComplete hp run hk, State.suspendReport, hs]
    rfl
  · rw [exec_resumeComplete hp run hk, State.resumeReport, if_pos (by exact hs), issuedAgain_working (by exact kept)]
    rfl
  · rw [exec_resumeComplete hp run hk, State.resumeReport, if_pos (by exact hs), issuedAgain_returned (by exact kept),
      runTimer_stopTimer (by exact value)]
    rfl
  · rw [exec_releaseComplete hp run hk, State.releaseReport, if_pos (by exact hs), issuedAgain_working (by exact kept)]
    rfl
  · rw [exec_releaseComplete hp run hk, State.releaseReport, if_pos (by exact hs), issuedAgain_returned (by exact kept)]
    rfl

end Sys2Proof.Machine
end

section
/-! PROOFS. Polls and sample reports: the front end, the monitor in each of its states, and the records it writes (R43 to R48, R53,
R57, R58, R60 to R71, R78, R156). -/

namespace Sys2Proof.Machine

variable {s : State} {k : ModuleId}

/-! ### A poll (R43, R44, R190) -/

/-- Settles O38: the poll's one update, at its due time. -/
theorem pollStartsATransfer : Obligations.PollStartsATransfer := by
  intro s hp idle ahead
  have now : max s.now s.fe.nextPoll = s.fe.nextPoll := Nat.max_eq_right ahead
  have taken : exec .pollDue s = .next s.begin.poll := by
    simp only [exec, execPollDue, State.serving_running hp, State.begin_fe, idle]
  have gap (a : Arbiter) (now : Nat) :
      a.endWake now =
        { a with wakeWait := false, gapFrom := if a.wakeWait ∧ a.gapFrom ≠ none then some now else a.gapFrom } := by
    unfold Arbiter.endWake
    rcases a with ⟨queue, running, _ | g, _ | _⟩ <;> rfl
  rw [taken, State.poll, State.runTo]
  simp only [State.begin_now, State.begin_fe, now, gap, State.onArb, Config.transferTime]
  rfl

/-! ### The sample report (R46 to R48, R53, R57, R58) -/

/-- The sample a reply makes: its own, corrected, or the last one again (R47, R48). -/
def State.replySample (s : State) (r : SensorReply) : Sample :=
  if replyFresh r then correctedSample s.ret.settings r else s.fe.last

/-- The run of stale samples after a reply (R48). -/
def State.replyStale (s : State) (r : SensorReply) : Nat := if replyFresh r then 0 else min (s.fe.staleCount + 1) 65535

/-- The window once a reply has ended a run of 64 stale ones, and its sum (R57). -/
def State.filledWindow (s : State) (r : SensorReply) : List Nat × Nat :=
  (if replyFresh r ∧ 64 ≤ s.fe.staleCount then List.replicate s.fe.window.length (s.replySample r).l1 else s.fe.window,
    if replyFresh r ∧ 64 ≤ s.fe.staleCount then (s.replySample r).l1 * s.fe.window.length else s.fe.sum)

/-- The window once a reply has entered it, and its sum (R53). -/
def State.replyWindow (s : State) (r : SensorReply) : List Nat × Nat :=
  ((s.filledWindow r).1.tail ++ [(s.replySample r).l1],
    (s.filledWindow r).2 - (s.filledWindow r).1.headD 0 + (s.replySample r).l1)

/-- The part once a reply is processed and before its report reaches the monitor. -/
def State.sampled (s : State) (r : SensorReply) (due : Nat) : State :=
  { s with
    ports := ⟨[], none, []⟩
    now := max s.now due
    fe :=
      { s.fe with
        transfer := none
        last := s.replySample r
        staleCount := s.replyStale r
        window := (s.replyWindow r).1
        sum := (s.replyWindow r).2 }
    counters :=
      if replyFresh r then s.counters else { s.counters with stale := min (s.counters.stale + 1) 65535 } }

/-- The report of a reply (R58). -/
def State.replyReport (s : State) (r : SensorReply) : Report where
  fresh := replyFresh r
  sample := s.replySample r
  saturated := replyFresh r && replySaturated s.ret.settings r
  average := (s.replyWindow r).2 / (s.replyWindow r).1.length
  staleCount := s.replyStale r
  staleRun := if replyFresh r then s.fe.staleCount else 0

theorem exec_sampleArrival (hp : s.phase = .running) {due : Nat} (ht : s.fe.transfer = some due) (r : SensorReply) :
    exec (.sampleArrival r) s = .next ((s.sampled r due).takeReport (s.replyReport r)) := by
  have taken : exec (.sampleArrival r) s =
      .next (((s.begin.runTo due).onFe fun f => { f with transfer := none }).takeReply r) := by
    simp only [exec, execSampleArrival, State.serving_running hp, State.begin_fe, ht]
  rw [taken, State.takeReply]
  cases fresh : replyFresh r with
  | true =>
    by_cases run : 64 ≤ s.fe.staleCount
    · have blind : Config.blindRun ≤ s.fe.staleCount := run
      simp only [State.sampled, State.replyReport, State.replyWindow, State.filledWindow, State.replySample, State.replyStale,
        FrontEnd.takeFresh, State.onFe, State.runTo, State.begin_fe, State.begin_ret, fresh, run, blind, if_true, true_and,
        Bool.true_and]
      rfl
    · have blind : ¬Config.blindRun ≤ s.fe.staleCount := run
      simp only [State.sampled, State.replyReport, State.replyWindow, State.filledWindow, State.replySample, State.replyStale,
        FrontEnd.takeFresh, State.onFe, State.runTo, State.begin_fe, State.begin_ret, fresh, run, blind, if_true, if_false,
        and_false, Bool.true_and]
      rfl
  | false =>
    simp only [State.sampled, State.replyReport, State.replyWindow, State.filledWindow, State.replySample, State.replyStale,
      fresh, Bool.false_eq_true, if_false, false_and, Bool.false_and]
    rfl

theorem isImpact_iff {t : Settings} {r : Report} :
    r.isImpact t = true ↔ r.fresh = true ∧ (t.impactLevel ≤ (r.sample.l1 : Int) ∨ r.saturated = true) := by
  rw [Report.isImpact, Bool.and_eq_true, Bool.or_eq_true, decide_eq_true_eq]

/-! ### The monitor's record (R62 to R65, R69, R70, R158) -/

/-- A record that is open and carries the number is changed (R158). -/
def changedAt (n : Option Nat) (f : ShockRec → ShockRec) (r : ShockRec) : ShockRec :=
  if n = some r.number ∧ r.isOpen = true then f r else r

theorem openRecChanged_eq (s : State) (f : ShockRec → ShockRec) :
    s.openRecChanged f = { s with ret := { s.ret with shocks := s.ret.shocks.map (changedAt s.mon.openRec f) } } := rfl

theorem changedAt_comp (n : Option Nat) {f : ShockRec → ShockRec} (g : ShockRec → ShockRec)
    (number : ∀ r, (f r).number = r.number) (isOpen : ∀ r, (f r).isOpen = r.isOpen) :
    changedAt n g ∘ changedAt n f = changedAt n (g ∘ f) := by
  funext r
  by_cases h : n = some r.number ∧ r.isOpen = true
  · simp only [Function.comp_apply, changedAt, if_pos h, number, isOpen]
  · simp only [Function.comp_apply, changedAt, if_neg h]

theorem map_changedAt_absent {n : Option Nat} {l : List ShockRec} (h : ∀ r ∈ l, n ≠ some r.number) (f : ShockRec → ShockRec) :
    l.map (changedAt n f) = l :=
  (List.map_congr_left fun r hr => if_neg fun ⟨same, _⟩ => h r hr same).trans (List.map_id l)

/-- Two changes of the open record are one, where the first neither renumbers nor closes it. -/
theorem openRecChanged_twice (s : State) {f : ShockRec → ShockRec} (g : ShockRec → ShockRec)
    (number : ∀ r, (f r).number = r.number) (isOpen : ∀ r, (f r).isOpen = r.isOpen) :
    (s.openRecChanged f).openRecChanged g = s.openRecChanged (g ∘ f) := by
  have once : (s.ret.shocks.map (changedAt s.mon.openRec f)).map (changedAt s.mon.openRec g) =
      s.ret.shocks.map (changedAt s.mon.openRec (g ∘ f)) := by
    rw [List.map_map, changedAt_comp _ g number isOpen]
  rw [openRecChanged_eq s (g ∘ f), ← once]
  rfl

/-- An impact taken into a record (R70). -/
theorem takeImpact_eq (k : ShockRec) (r : Report) :
    k.takeImpact r =
      { k with
        peak := match k.peak with
          | none => some { l1 := r.sample.l1, axis := peakAxis r.sample }
          | some p => if p.l1 < r.sample.l1 then some { l1 := r.sample.l1, axis := peakAxis r.sample } else some p
        saturated := k.saturated || r.saturated } := by
  unfold ShockRec.takeImpact
  rcases k.peak with _ | p
  · rfl
  · simp only [decide_eq_true_eq]

/-- The record the monitor opens, before the log overwrites or refuses any (R69, R156). -/
def State.openedRecord (s : State) (kind : ShockKind) (duration : Nat) (strike : Option (Peak × Bool)) : ShockRec where
  number := s.ret.epoch + 1
  kind := kind
  stamp := s.clock.stamp
  duration := duration
  peak := strike.map Prod.fst
  saturated := (strike.map Prod.snd).getD false
  strikes := if strike.isSome then 1 else 0
  charge := s.gauge.q * 1000 / (s.ret.settings.capacity.toNat * 3600000)
  exposed := 0
  held := (ModuleId.all.filter fun k => decide ((s.slotLive k).state = .held)).length
  isOpen := true

theorem recordOpened_shocks (s : State) (kind : ShockKind) (duration : Nat) (strike : Option (Peak × Bool)) :
    (s.recordOpened kind duration strike).ret.shocks =
      if s.ret.epoch < 4294967295 then
        (if 32 ≤ s.ret.shocks.length then s.ret.shocks.tail else s.ret.shocks) ++ [s.openedRecord kind duration strike]
      else s.ret.shocks := by
  unfold State.recordOpened State.openedRecord
  by_cases room : s.ret.epoch < 4294967295
  · simp only [room, if_true, decide_eq_true_eq]
  · simp only [room, if_false]

theorem recordOpened_openRec (s : State) (kind : ShockKind) (duration : Nat) (strike : Option (Peak × Bool)) :
    (s.recordOpened kind duration strike).mon.openRec =
      some (if s.ret.epoch < 4294967295 then s.ret.epoch + 1 else 0) := by
  unfold State.recordOpened
  by_cases room : s.ret.epoch < 4294967295
  · simp only [room, if_true]
  · simp only [room, if_false]

theorem recordOpened_strike_reaches (s : State) (kind : ShockKind) (duration : Nat) (strike : Option (Peak × Bool)) :
    s.recordOpened kind duration strike =
      { s.recordOpened kind duration none with
        ret :=
          { (s.recordOpened kind duration none).ret with shocks := (s.recordOpened kind duration strike).ret.shocks } } := by
  unfold State.recordOpened
  by_cases room : s.ret.epoch < 4294967295
  · simp only [room, if_true]
  · simp only [room, if_false]

/-- A record opened at an impact takes it as its strike: it alone carries its number (R70, R156). -/
theorem recordOpened_strike (h : s.ShocksOrdered) (kind : ShockKind) (duration : Nat) (r : Report) :
    (s.recordOpened kind duration none).openRecChanged (fun k => k.takeStrike r) =
      s.recordOpened kind duration (some ({ l1 := r.sample.l1, axis := peakAxis r.sample }, r.saturated)) := by
  obtain ⟨-, -, range, -, -⟩ := h
  rw [recordOpened_strike_reaches s kind duration (some _), openRecChanged_eq, recordOpened_openRec, recordOpened_shocks,
    recordOpened_shocks]
  by_cases room : s.ret.epoch < 4294967295
  · have others {l : List ShockRec} (hl : ∀ x ∈ l, x ∈ s.ret.shocks) (x : ShockRec) (hx : x ∈ l) :
        some (s.ret.epoch + 1) ≠ some x.number := fun same => by
      have := (range x (hl x hx)).2
      have := Option.some.inj same
      omega
    have kept : ∀ x ∈ (if 32 ≤ s.ret.shocks.length then s.ret.shocks.tail else s.ret.shocks), x ∈ s.ret.shocks := by
      split
      · exact fun x => List.mem_of_mem_tail
      · exact fun x => id
    have struck : changedAt (some (s.ret.epoch + 1)) (fun k => k.takeStrike r) (s.openedRecord kind duration none) =
        s.openedRecord kind duration (some ({ l1 := r.sample.l1, axis := peakAxis r.sample }, r.saturated)) := by
      rw [changedAt, if_pos ⟨rfl, rfl⟩]
      rfl
    simp only [room, if_true, List.map_append, List.map_cons, List.map_nil, map_changedAt_absent (others kept), struck]
  · have others (x : ShockRec) (hx : x ∈ s.ret.shocks) : some 0 ≠ some x.number := fun same => by
      have := (range x hx).1
      have := Option.some.inj same
      omega
    simp only [room, if_false, map_changedAt_absent others]

end Sys2Proof.Machine
end

section
/-! PROOFS. What a sample report does in each state of the monitor (R60 to R71, R78). -/

namespace Sys2Proof.Machine

variable {s : State} {r : Report}

/-! ### A report in each state (R61 to R68) -/

theorem takeReport_calm (hm : s.mon.state = .calm) (h : r.staleCount ≠ 64) : s.takeReport r = s.reportCalm r := by
  rw [State.takeReport, hm]
  exact if_neg h

theorem takeReport_falling (hm : s.mon.state = .falling) (h : r.staleCount ≠ 64) : s.takeReport r = s.reportFalling r := by
  rw [State.takeReport, hm]
  exact if_neg h

theorem takeReport_struck (hm : s.mon.state = .struck) (h : r.staleCount ≠ 64) : s.takeReport r = s.reportStruck r := by
  rw [State.takeReport, hm]
  exact if_neg h

theorem takeReport_settling (hm : s.mon.state = .settling) (h : r.staleCount ≠ 64) : s.takeReport r = s.reportSettling r := by
  rw [State.takeReport, hm]
  exact if_neg h

theorem takeReport_blind (hm : s.mon.state = .blind) : s.takeReport r = s.reportBlind r := by
  rw [State.takeReport, hm]

theorem takeReport_enterBlind (hm : s.mon.state ≠ .blind) (h : r.staleCount = 64) : s.takeReport r = s.enterBlind := by
  have run : r.staleCount = Config.blindRun := h
  rw [State.takeReport]
  cases state : s.mon.state with
  | blind => exact absurd state hm
  | calm => exact if_pos run
  | falling => exact if_pos run
  | struck => exact if_pos run
  | settling => exact if_pos run

theorem reportCalm_impact (h : s.ShocksOrdered) (hi : r.isImpact s.ret.settings = true) :
    s.reportCalm r =
      ((s.recordOpened .knock 0
        (some ({ l1 := r.sample.l1, axis := peakAxis r.sample }, r.saturated))).monitorAt .struck 0
          s.mon.settle).departureSignals.departureWakes := by
  rw [← recordOpened_strike h, ← State.openRecord_eq, ← State.changeOpenRec_eq]
  exact if_pos hi

/-- A low sample in CALM, by the length of its run (R61). -/
theorem reportCalm_low (hi : ¬r.isImpact s.ret.settings = true) (hl : (r.average : Int) < s.ret.settings.fallLevel) :
    s.reportCalm r =
      if s.ret.settings.fallConfirm ≤ ((min (s.mon.lowRun + 1) 255 : Nat) : Int) then
        ((s.recordOpened .fall s.ret.settings.fallConfirm.toNat none).monitorAt .falling 0
          s.mon.settle).departureSignals.departureWakes
      else s.monitorAt .calm (min (s.mon.lowRun + 1) 255) s.mon.settle := by
  rw [← State.openRecord_eq]
  exact (if_neg hi).trans (if_pos hl)

theorem reportCalm_high (hi : ¬r.isImpact s.ret.settings = true) (hl : s.ret.settings.fallLevel ≤ (r.average : Int)) :
    s.reportCalm r = s.monitorAt .calm 0 s.mon.settle :=
  (if_neg hi).trans (if_neg (not_lt.2 hl))

theorem reportFalling_impact (hi : r.isImpact s.ret.settings = true) :
    s.reportFalling r =
      (s.openRecChanged fun k => { (k.addDuration 1).takeStrike r with kind := .drop }).monitorAt .struck s.mon.lowRun
        s.mon.settle := by
  refine (if_pos hi).trans ?_
  rw [State.changeOpenRec_eq, State.changeOpenRec_eq, openRecChanged_twice s (f := fun k => k.addDuration 1) _ (fun _ => rfl) fun _ => rfl]
  rfl

theorem reportFalling_other (hi : ¬r.isImpact s.ret.settings = true) :
    s.reportFalling r =
      if s.ret.settings.fallExit ≤ (r.average : Int) then
        (s.openRecChanged fun k => k.addDuration 1).monitorAt .settling 0 0
      else s.openRecChanged fun k => k.addDuration 1 := by
  rw [← State.changeOpenRec_eq]
  exact if_neg hi

theorem reportStruck_eq :
    s.reportStruck r =
      if r.isImpact s.ret.settings then s.openRecChanged fun k => k.takeImpact r else s.monitorAt .settling 0 0 := by
  rw [← State.changeOpenRec_eq]
  rfl

theorem struck_eq (kind : ShockKind) : kind.struck = if kind = .fall then .drop else kind := by
  cases kind <;> rfl

theorem fell_eq (kind : ShockKind) : kind.fell = if kind = .knock then .drop else kind := by
  cases kind <;> rfl

theorem reportSettling_impact (hi : r.isImpact s.ret.settings = true) :
    s.reportSettling r =
      (s.openRecChanged fun k =>
        { k.takeStrike r with kind := if k.kind = .fall then .drop else k.kind }).monitorAt .struck 0 0 := by
  simp only [← struck_eq]
  rw [← State.changeOpenRec_eq]
  exact if_pos hi

/-- A report in SETTLING that is no impact, by its low run and its rest run (R64, R65, R71). -/
theorem reportSettling_other (hi : ¬r.isImpact s.ret.settings = true) {low rest : Nat}
    (hlow : (if (r.average : Int) < s.ret.settings.fallLevel then min (s.mon.lowRun + 1) 255 else 0) = low)
    (hrest : (if s.ret.settings.restLow ≤ (r.average : Int) ∧ (r.average : Int) ≤ s.ret.settings.restHigh then
      min (s.mon.settle + 1) 4095 else 0) = rest) :
    s.reportSettling r =
      if s.ret.settings.fallConfirm ≤ (low : Int) then
        (s.openRecChanged fun k =>
          { k.addDuration s.ret.settings.fallConfirm.toNat with
            kind := if k.kind = .knock then .drop else k.kind }).monitorAt .falling 0 0
      else if s.ret.settings.settleCount ≤ (rest : Int) then (s.openRecClosed.monitorAt .calm 0 0).calmSignals
      else s.monitorAt .settling low rest := by
  simp only [← fell_eq]
  rw [← hlow, ← hrest, ← State.changeOpenRec_eq, ← State.closeOpenRec_eq]
  exact if_neg hi

theorem enterBlind_eq (s : State) :
    s.enterBlind =
      let blinded := (s.openRecClosed.recordOpened .blind 0 none).blindSignals.monitorAt .blind 0 0
      if s.mon.state = .calm then blinded.departureWakes else blinded := by
  rw [State.enterBlind, State.closeOpenRec_eq, State.openRecord_eq]
  simp only [decide_eq_true_eq]
  rfl

theorem reportBlind_eq :
    s.reportBlind r =
      if r.fresh then
        ((s.openRecChanged fun k =>
          { k with duration := min r.staleRun 65535 }).openRecClosed.monitorAt .calm 0 0).resumeAll
      else s := by
  rw [← State.changeOpenRec_eq, ← State.closeOpenRec_eq]
  rfl

/-- Settles O41: the reply's report, then the monitor's state, then what the report shows. -/
theorem sampleReportMovesTheMonitor : Obligations.SampleReportMovesTheMonitor := by
  intro s r due hp ht ho
  rw [exec_sampleArrival hp ht r]
  have ordered : (s.sampled r due).ShocksOrdered := ho
  intro set fresh c saturated filled filledSum window sum average stale impact v axis peak hit strike lasted low rest blinded
  have impacts : (s.replyReport r).isImpact s.ret.settings = true ↔ impact := isImpact_iff
  have hits (k : ShockRec) : k.takeImpact (s.replyReport r) = hit k := takeImpact_eq k _
  refine ⟨fun hm run => ⟨fun hi => ?_, fun hi hl confirmed => ?_, fun hi hl short => ?_, fun hi hl => ?_⟩,
    fun hm run => ⟨fun hi => ?_, fun hi exit => ?_, fun hi stay => ?_⟩, fun hm run => ⟨fun hi => ?_, fun hi => ?_⟩,
    fun hm run => ⟨fun hi => ?_, fun hi fell => ?_, fun hi short calm => ?_, fun hi short wait => ?_⟩,
    fun run => ⟨fun hm => ?_, fun hm => ?_⟩, fun hm => ⟨fun hf => ?_, fun hf => ?_⟩⟩
  · rw [takeReport_calm (s := s.sampled r due) hm run, reportCalm_impact ordered (impacts.2 hi)]
    rfl
  · rw [takeReport_calm (s := s.sampled r due) hm run, reportCalm_low (s := s.sampled r due) (impacts.not.2 hi) hl]
    exact congrArg _ (if_pos confirmed)
  · rw [takeReport_calm (s := s.sampled r due) hm run, reportCalm_low (s := s.sampled r due) (impacts.not.2 hi) hl]
    exact congrArg _ (if_neg (not_le.2 short))
  · rw [takeReport_calm (s := s.sampled r due) hm run, reportCalm_high (s := s.sampled r due) (impacts.not.2 hi) hl]
    rfl
  · rw [takeReport_falling (s := s.sampled r due) hm run, reportFalling_impact (s := s.sampled r due) (impacts.2 hi)]
    simp only [ShockRec.takeStrike, hits]
    rfl
  · rw [takeReport_falling (s := s.sampled r due) hm run, reportFalling_other (s := s.sampled r due) (impacts.not.2 hi)]
    exact congrArg _ (if_pos exit)
  · rw [takeReport_falling (s := s.sampled r due) hm run, reportFalling_other (s := s.sampled r due) (impacts.not.2 hi)]
    exact congrArg _ (if_neg (not_le.2 stay))
  · rw [takeReport_struck (s := s.sampled r due) hm run, reportStruck_eq]
    simp only [hits]
    exact congrArg _ (if_pos (impacts.2 hi))
  · rw [takeReport_struck (s := s.sampled r due) hm run, reportStruck_eq]
    exact congrArg _ (if_neg (impacts.not.2 hi))
  · rw [takeReport_settling (s := s.sampled r due) hm run, reportSettling_impact (s := s.sampled r due) (impacts.2 hi)]
    simp only [ShockRec.takeStrike, hits]
    rfl
  · rw [takeReport_settling (s := s.sampled r due) hm run,
      reportSettling_other (s := s.sampled r due) (impacts.not.2 hi) rfl rfl]
    exact congrArg _ (if_pos fell)
  · rw [takeReport_settling (s := s.sampled r due) hm run,
      reportSettling_other (s := s.sampled r due) (impacts.not.2 hi) rfl rfl]
    exact congrArg _ ((if_neg (not_le.2 short)).trans (if_pos calm))
  · rw [takeReport_settling (s := s.sampled r due) hm run,
      reportSettling_other (s := s.sampled r due) (impacts.not.2 hi) rfl rfl]
    exact congrArg _ ((if_neg (not_le.2 short)).trans (if_neg (not_le.2 wait)))
  · have some : (s.sampled r due).mon.state ≠ .blind := fun blind => absurd (hm.symm.trans blind) (by decide)
    rw [takeReport_enterBlind some run, enterBlind_eq]
    exact congrArg _ (if_pos hm)
  · have some : (s.sampled r due).mon.state ≠ .blind ∧ (s.sampled r due).mon.state ≠ .calm := by
      rcases hm with hm | hm | hm <;> exact ⟨fun h => absurd (hm.symm.trans h) (by decide), fun h => absurd (hm.symm.trans h) (by decide)⟩
    rw [takeReport_enterBlind some.1 run, enterBlind_eq]
    exact congrArg _ (if_neg some.2)
  · rw [takeReport_blind (s := s.sampled r due) hm, reportBlind_eq]
    have staleRun : (s.replyReport r).staleRun = s.fe.staleCount := if_pos hf
    rw [staleRun]
    exact congrArg _ (if_pos hf)
  · rw [takeReport_blind (s := s.sampled r due) hm, reportBlind_eq]
    exact congrArg _ (if_neg (Bool.eq_false_iff.1 hf))

/-! ### A stale sample and an impact in CALM -/

theorem replyFresh_eq_false (r : SensorReply) (h : r.status = 0xFF ∨ r.status.getLsbD 7 = false) : replyFresh r = false := by
  rw [replyFresh, replyNewData]
  rcases h with h | h
  · simp only [h, ne_eq, not_true_eq_false, decide_false, Bool.false_and]
  · rw [h, Bool.and_false]

/-- Settles O39: a stale report in CALM of a high average clears the low run alone. -/
theorem staleSampleRepeatsTheLast : Obligations.StaleSampleRepeatsTheLast := by
  intro s r due oldest rest hp ht ahead hm hw hs run high
  have stale := replyFresh_eq_false r hs
  have sample : s.replySample r = s.fe.last := if_neg (Bool.eq_false_iff.1 stale)
  have count : s.replyStale r = s.fe.staleCount + 1 :=
    (if_neg (Bool.eq_false_iff.1 stale)).trans (Nat.min_eq_left (by omega))
  have window : s.replyWindow r = (rest ++ [s.fe.last.l1], s.fe.sum - oldest + s.fe.last.l1) := by
    simp only [State.replyWindow, State.filledWindow, stale, sample, hw, Bool.false_eq_true, false_and, if_false,
      List.tail_cons, List.headD_cons]
  have quiet : ¬(s.replyReport r).isImpact s.ret.settings = true := fun h =>
    absurd ((isImpact_iff.1 h).1.symm.trans stale) (by decide)
  have average : (s.replyReport r).average = (s.fe.sum - oldest + s.fe.last.l1) / (rest.length + 1) := by
    simp only [State.replyReport, window, List.length_append, List.length_cons, List.length_nil]
  have short : (s.replyReport r).staleCount ≠ 64 := by
    rw [State.replyReport, count]
    exact Nat.ne_of_lt run
  rw [exec_sampleArrival hp ht r, takeReport_calm (s := s.sampled r due) hm short,
    reportCalm_high (s := s.sampled r due) quiet (by rw [average]; exact high), State.sampled, sample, count, window,
    Nat.max_eq_right ahead, if_neg (Bool.eq_false_iff.1 stale), State.monitorAt, ← hm]

/-- A part with no slot live is reached by no signal of a departure (R73 to R75, R89). -/
theorem departureSignals_free (h : ∀ k, (s.slotLive k).state = .free) : s.departureSignals = s := by
  have expose (k : ModuleId) : s.exposeSlot k = s := by
    rw [State.exposeSlot, h k]
  have suspend (k : ModuleId) : s.suspendSlot k = s := by
    rw [State.suspendSlot, h k]
    exact ite_self s
  have withdraw (k : ModuleId) : s.withdrawRelease k = s := by
    have none (cause : ReleaseCause) : s.isQueuedWith k cause = false := by
      rw [State.isQueuedWith, h k]
      rfl
    rw [State.withdrawRelease, none, none]
    rfl
  have judge : s.judgeHolds = s := by
    have hold (k : ModuleId) : s.holdOver k = false := by
      rw [State.holdOver, State.isWaiting, h k]
      rfl
    have stays (l : List ModuleId) : l.foldl (fun s k => if s.holdOver k then s.breakHold k else s) s = s := by
      induction l with
      | nil => rfl
      | cons k l ih => rw [List.foldl_cons, hold, if_neg Bool.false_ne_true, ih]
    exact stays s.releaseQueue
  have all (f : State → ModuleId → State) (hf : ∀ k, f s k = s) : ModuleId.all.foldl f s = s := by
    simp only [ModuleId.all, List.foldl_cons, List.foldl_nil, hf]
  rw [State.departureSignals, all _ expose, all _ suspend, all _ withdraw, judge]

/-- A departure wakes a dozing part and sets the idle time to 0 (R78, R188, R191). -/
theorem departureWakes_eq (s : State) :
    s.departureWakes =
      if s.doze.dozing then
        { s with
          doze := { dozing := false, idleFromMs := s.now / 1000 }
          fe :=
            { s.fe with
              pollPeriod := 625
              nextPoll := s.now + 625
              window := List.replicate s.fe.window.length (s.fe.sum / s.fe.window.length)
              sum := s.fe.sum / s.fe.window.length * s.fe.window.length }
          gauge := { s.gauge with currentPeriod := 10000, nextCurrent := s.now + 10000 } }
      else { s with doze := { s.doze with idleFromMs := s.now / 1000 } } := by
  rw [State.departureWakes, State.wake, changeRate_eq, Config.pollActive, Config.currentActive]
  rfl

/-- What a departure's wake leaves of the part. -/
theorem departureWakes_keeps (s : State) :
    s.departureWakes.ret = s.ret ∧ s.departureWakes.causes = s.causes ∧ s.departureWakes.mon = s.mon
      ∧ s.departureWakes.fe.last = s.fe.last ∧ s.departureWakes.fe.staleCount = s.fe.staleCount
      ∧ s.departureWakes.doze.dozing = false ∧ s.departureWakes.counters = s.counters
      ∧ s.departureWakes.relay = s.relay ∧ s.departureWakes.tag = s.tag ∧ s.departureWakes.svc = s.svc
      ∧ s.departureWakes.clock = s.clock ∧ s.departureWakes.gauge.q = s.gauge.q := by
  rw [departureWakes_eq]
  cases dozing : s.doze.dozing with
  | true => exact ⟨rfl, rfl, rfl, rfl, rfl, rfl, rfl, rfl, rfl, rfl, rfl, rfl⟩
  | false => exact ⟨rfl, rfl, rfl, rfl, rfl, dozing, rfl, rfl, rfl, rfl, rfl, rfl⟩

/-- A record that finds a number and a place joins the log (R69, R156). -/
theorem recordOpened_placed (room : s.ret.epoch < 4294967295) (place : s.ret.shocks.length < 32) (kind : ShockKind)
    (duration : Nat) (strike : Option (Peak × Bool)) :
    s.recordOpened kind duration strike =
      { s with
        ret :=
          { s.ret with
            shocks := s.ret.shocks ++ [s.openedRecord kind duration strike], epoch := s.ret.epoch + 1 }
        causes := s.causes ||| 1
        mon :=
          { s.mon with
            openRec := some (s.ret.epoch + 1)
            heldCounted := ModuleId.all.filter fun k => decide ((s.slotLive k).state = .held)
            exposedCounted := [] } } := by
  simp only [State.recordOpened, room, not_le.2 place, decide_false, Bool.false_eq_true, if_true, if_false]
  rfl

/-- Settles O40: the KNOCK opens in its place, and with no slot live the departure only wakes the part. -/
theorem impactInCalmOpensAKnock : Obligations.ImpactInCalmOpensAKnock := by
  intro s r due hp ht hm fresh hi free ordered room place
  intro c axis
  have sample : s.replySample r = c := if_pos fresh
  have count : s.replyStale r = 0 := if_pos fresh
  have saturated : (s.replyReport r).saturated = replySaturated s.ret.settings r := by
    rw [State.replyReport, fresh, Bool.true_and]
  have sampled : (s.replyReport r).sample = c := sample
  have impact : (s.replyReport r).isImpact s.ret.settings = true :=
    isImpact_iff.2 ⟨fresh, by rw [saturated, sampled]; exact hi⟩
  have short : (s.replyReport r).staleCount ≠ 64 := fun run => absurd (count.symm.trans run) (by decide)
  have noHeld : (ModuleId.all.filter fun k => decide ((s.slotLive k).state = .held)) = [] := by
    simp only [free, reduceCtorEq, decide_false, ModuleId.all, List.filter_cons, Bool.false_eq_true, if_false, List.filter_nil]
  let strike := some (({ l1 := c.l1, axis := axis } : Peak), replySaturated s.ret.settings r)
  have opened := recordOpened_placed (s := s.sampled r due) room place .knock 0 strike
  have record : (s.sampled r due).openedRecord .knock 0 strike =
      { number := s.ret.epoch + 1, kind := .knock, stamp := s.clock.stamp, duration := 0,
        peak := some { l1 := c.l1, axis := axis },
        saturated := replySaturated s.ret.settings r, strikes := 1,
        charge := s.gauge.q * 1000 / (s.ret.settings.capacity.toNat * 3600000), exposed := 0, held := 0, isOpen := true } :=
    congrArg (fun l : List ModuleId => ShockRec.mk (s.ret.epoch + 1) .knock s.clock.stamp 0 (some ⟨c.l1, axis⟩)
      (replySaturated s.ret.settings r) 1 (s.gauge.q * 1000 / (s.ret.settings.capacity.toNat * 3600000)) 0 l.length true) noHeld
  rw [record] at opened
  obtain ⟨ret, causes, mon, last, stale, doze, counters, relay, tag, svc, clock, q⟩ :=
    departureWakes_keeps (((s.sampled r due).recordOpened .knock 0 strike).monitorAt .struck 0 s.mon.settle)
  have quiet : ((s.sampled r due).recordOpened .knock 0 strike).monitorAt .struck 0 s.mon.settle =
      (((s.sampled r due).recordOpened .knock 0 strike).monitorAt .struck 0 s.mon.settle).departureSignals :=
    (departureSignals_free (by rw [opened]; exact free)).symm
  refine ⟨(((s.sampled r due).recordOpened .knock 0 strike).monitorAt .struck 0 s.mon.settle).departureWakes, ?_, ?_⟩
  · rw [exec_sampleArrival hp ht r, takeReport_calm (s := s.sampled r due) hm short,
      reportCalm_impact (s := s.sampled r due) ordered impact, sampled, saturated, quiet]
    rfl
  · rw [ret, causes, mon, last, stale, doze, counters, relay, tag, svc, clock, q, opened]
    exact ⟨rfl, rfl, rfl, rfl, rfl, sample, count, rfl, rfl, rfl, rfl, if_pos fresh, rfl, rfl, rfl, rfl, rfl⟩

end Sys2Proof.Machine
end

section
/-! PROOFS. The battery gauge's samples, the schedules and doze entry (R45, R56, R106 to R120, R189, R192, R193). -/

namespace Sys2Proof.Machine

variable {s : State}

/-! ### The schedules (R106, R114, R192, R193) -/

/-- Settles O44: each event runs the time base to its due time and moves that time on by one period. -/
theorem schedulesRunAtTheirDueTimes : Obligations.SchedulesRunAtTheirDueTimes := by
  intro s hp t
  have runs {due : Nat} (ahead : s.now ≤ due) : s.begin.runTo due = t due := by
    rw [State.runTo, State.begin_now, Nat.max_eq_right ahead]
    rfl
  refine ⟨fun ahead => ?_, fun ahead => ?_, fun ahead => ?_, fun ahead => ?_, fun ahead top => ?_⟩
  · simp only [exec, execCurrentSampleDue, State.serving_running hp, State.begin_gauge, runs ahead]
    rfl
  · simp only [exec, execVoltageSampleDue, State.serving_running hp, State.begin_gauge, runs ahead]
    rfl
  · simp only [exec, execQCopyDue, State.serving_running hp, State.begin_gauge, runs ahead]
    rfl
  · simp only [exec, execStampCopyDue, State.serving_running hp, State.begin_clock, runs ahead]
    rfl
  · have wraps : (s.clock.stamp + 1) % 4294967296 = if s.clock.stamp = 4294967295 then 0 else s.clock.stamp + 1 := by
      split <;> omega
    simp only [exec, execStampSecond, State.serving_running hp, State.begin_clock, runs ahead, ← wraps]
    rfl

/-! ### The gauge's samples (R108, R111, R112, R117, R118, R120) -/

/-- A level that only the charge condition can have moved is handed on where it moved it: out of CRITICAL (R118, R120). -/
theorem handLevel_charge {g : Gauge} (h : s.gauge.voltageLow = g.voltageLow) :
    s.handLevel g.level =
      { s with
        causes := if g.voltageLow = false ∧ s.gauge.chargeLow ≠ g.chargeLow then s.causes ||| 8 else s.causes } := by
  rw [State.handLevel_eq, State.levelHanded, Gauge.level, h]
  cases g.voltageLow with
  | true => rfl
  | false => cases s.gauge.chargeLow <;> cases g.chargeLow <;> rfl

/-- A level that only the voltage condition can have moved is handed on where it changed, its entry into CRITICAL to the slots
(R118, R120). -/
theorem handLevel_voltage {g : Gauge} (h : s.gauge.chargeLow = g.chargeLow) :
    s.handLevel g.level =
      if s.gauge.voltageLow = g.voltageLow then s
      else if s.gauge.voltageLow then ({ s with causes := s.causes ||| 8 } : State).criticalEntry
      else { s with causes := s.causes ||| 8 } := by
  rw [State.handLevel_eq, State.levelHanded, Gauge.level, h]
  cases s.gauge.voltageLow <;> cases g.voltageLow <;> cases g.chargeLow <;> rfl

/-- Settles O45: the sample's quantum leaves Q, and only the charge condition can move the level. -/
theorem currentSampleIsCounted : Obligations.CurrentSampleIsCounted := by
  intro s raw hp running cal quantum full reserve q low
  have taken : exec (.currentSampleArrival raw) s =
      .next ((s.begin.onGauge fun g => { g with currentRunning := false }).takeCurrent raw.toInt) := by
    simp only [exec, execCurrentSampleArrival, State.serving_running hp, State.begin_gauge, running, if_true]
  have beyond : decide (0 < quantum ∧ (s.gauge.q : Int) < quantum) = (decide (0 < quantum) && decide ((s.gauge.q : Int) < quantum)) :=
    Bool.decide_and ..
  have counted : (s.begin.onGauge fun g => { g with currentRunning := false }).takeCurrent raw.toInt =
      State.handLevel
        { s with
          ports := ⟨[], none, []⟩
          gauge :=
            { s.gauge with
              currentRunning := false
              iCal := cal
              q := q
              underrun := s.gauge.underrun || (decide (0 < quantum) && decide ((s.gauge.q : Int) < quantum))
              chargeLow := low } } s.gauge.level := by
    have calibrated : calibrateCurrent s.ret.settings raw.toInt = cal := clampInt_eq (by decide)
    have counted (c : Int) : chargeAfter s.ret.settings.full s.gauge.q c = (max 0 (min (full : Int) ((s.gauge.q : Int) - c))).toNat :=
      congrArg _ (clampInt_eq (Int.natCast_nonneg _))
    unfold State.takeCurrent
    simp only [State.onGauge, State.begin_gauge, State.begin_ret, State.begin_doze, calibrated, counted]
    rfl
  rw [taken, counted, beyond]
  exact congrArg _ (handLevel_charge rfl)

/-- Settles O46: the sample enters the window, and only the voltage condition can move the level. -/
theorem voltageSampleEntersTheWindow : Obligations.VoltageSampleEntersTheWindow := by
  intro s mv oldest rest hp running window sum average low t
  have taken : exec (.voltageSampleArrival mv) s =
      .next ((s.begin.onGauge fun g => { g with voltageRunning := false }).takeVoltage mv.toNat) := by
    simp only [exec, execVoltageSampleArrival, State.serving_running hp, State.begin_gauge, running, if_true]
  have entered : (s.begin.onGauge fun g => { g with voltageRunning := false }).takeVoltage mv.toNat =
      t.handLevel s.gauge.level := by
    unfold State.takeVoltage
    simp only [State.onGauge, State.begin_gauge, window, List.headD_cons, List.tail_cons]
    rfl
  rw [taken, entered, handLevel_voltage (s := t) (g := s.gauge) rfl]
  refine ⟨fun same => ?_, fun left was => ?_, fun entry was => ?_⟩
  · exact congrArg _ (if_pos same)
  · have moved : ¬t.gauge.voltageLow = s.gauge.voltageLow := fun h => absurd (left.symm.trans (h.trans was)) (by decide)
    exact congrArg _ ((if_neg moved).trans (if_neg (Bool.eq_false_iff.1 left)))
  · have moved : ¬t.gauge.voltageLow = s.gauge.voltageLow := fun h => absurd (entry.symm.trans (h.trans was)) (by decide)
    exact congrArg _ ((if_neg moved).trans (if_pos entry))

/-! ### Doze entry (R45, R56, R107, R114, R189) -/

/-- Settles O47: the event falls asleep exactly where the part is quiet and its idle time has reached DOZE_DELAY. -/
theorem dozeEntrySlowsThePart : Obligations.DozeEntrySlowsThePart := by
  refine ⟨fun s => quiet_iff, fun s hp => ?_⟩
  intro idle
  refine ⟨fun quiet long => ?_, fun stays => ?_⟩
  · have may : s.begin.mayDoze = true := mayDoze_iff.2 ⟨quiet, long⟩
    simp only [exec, execDozeEntry, State.serving_running hp, may, if_true, State.fallAsleep, changeRate_eq, Config.pollDoze,
      Config.currentDoze]
    rfl
  · have not : ¬s.begin.mayDoze = true := fun may => by
      obtain ⟨quiet, long⟩ := mayDoze_iff.1 may
      rcases stays with busy | short
      · exact absurd (busy.symm.trans quiet) (by decide)
      · exact absurd long (not_le.2 short)
    simp only [exec, execDozeEntry, State.serving_running hp, if_neg not]
    rfl

end Sys2Proof.Machine
end

section
/-! PROOFS. Power loss, the two resets and reconciliation (R59, R106, R119, R130 to R141, R187, R193, R194). -/

namespace Sys2Proof.Machine

variable {s : State}

/-! ### Values of the four modules -/

theorem PerModule.ext_get {α : Type} {p q : PerModule α} (h : ∀ k, p.get k = q.get k) : p = q := by
  cases p
  cases q
  exact congr (congr (congr (congrArg PerModule.mk (h .m0)) (h .m1)) (h .m2)) (h .m3)

theorem perModule_get {α : Type} (f : ModuleId → α) (k : ModuleId) : (perModule f).get k = f k := by
  cases k <;> rfl

theorem PerModule.get_set {α : Type} (v : PerModule α) (i j : ModuleId) (x : α) :
    (v.set j x).get i = if i = j then x else v.get i := by
  by_cases h : i = j
  · rw [h, PerModule.get_set_self, if_pos rfl]
  · rw [PerModule.get_set_other _ _ h, if_neg h]

/-! ### Power loss and RESET# (R130 to R132) -/

/-- Settles O48: step 1 in each phase. -/
theorem resetAbandonsWhatIsInProgress : Obligations.ResetAbandonsWhatIsInProgress := by
  intro s
  have lost : s.loseVolatile.Abandoned :=
    ⟨rfl, rfl, rfl, rfl, rfl, rfl, rfl, rfl, rfl, rfl, rfl, rfl, rfl, rfl, rfl⟩
  refine ⟨⟨_, rfl, rfl, rfl, rfl, rfl, lost⟩, fun powered high => ?_, fun low => ?_, fun off high => ?_, fun off low inp => ?_⟩
  · have taken : exec .resetAssert s = .next { s.abandon with resetPin := true } := by
      simp only [exec, execResetAssert, State.assertReset, high, Bool.false_eq_true, if_false]
      cases phase : s.phase with
      | running => rfl
      | inReset kind => rfl
      | unpowered => exact absurd phase powered
    have abandoned : State.Abandoned { s.abandon with resetPin := true } :=
      ⟨rfl, rfl, rfl, rfl, rfl, rfl, rfl, rfl, rfl, rfl, rfl, rfl, rfl, rfl, rfl⟩
    exact ⟨_, taken, rfl, rfl, rfl, rfl, abandoned, rfl, rfl, rfl, rfl, rfl⟩
  · simp only [exec, execResetAssert, State.assertReset, low, if_true]
    rw [← low]
    rfl
  · simp only [exec, execResetAssert, State.assertReset, high, off, Bool.false_eq_true, if_false]
    rw [← off]
    rfl
  · simp only [exec, execPowerOn, off, State.powerOn]
    rw [if_pos (show s.begin.resetPin = true from low)]
    rfl

/-! ### Reconciliation (R59, R133 to R137) -/

/-- A slot record closed by reconciliation (R133). -/
def SlotRec.reconciled (r : SlotRec) : SlotRec := { r with state := .free, last := some r.state.lostOrTorn.1 }

/-- The suspect list and its overflow count once each module of a list has handed its entry (R134, R144). -/
def State.reconciledList (s : State) (ks : List ModuleId) : List Suspect × Nat :=
  ks.foldl
    (fun l k =>
      let a := addSuspect l.1 l.2 ((s.slotRec k).entry k (s.slotRec k).state.lostOrTorn.2 s.clock.stamp)
      (a.1, a.2.1)) (s.ret.suspects, s.ret.overflow)

/-- The part once the slots of the given modules are closed by reconciliation. -/
def State.slotsReconciled (s : State) (ks : List ModuleId) : State :=
  { s with
    ret :=
      { s.ret with
        slots := perModule fun k => if k ∈ ks then (s.slotRec k).reconciled else s.slotRec k
        suspects := (s.reconciledList ks).1
        overflow := (s.reconciledList ks).2 } }

theorem reconcileSlot_eq (s : State) (k : ModuleId) :
    s.reconcileSlot k =
      let list :=
        addSuspect s.ret.suspects s.ret.overflow ((s.slotRec k).entry k (s.slotRec k).state.lostOrTorn.2 s.clock.stamp)
      { s with
        ret :=
          { s.ret with
            slots := s.ret.slots.set k (s.slotRec k).reconciled, suspects := list.1, overflow := list.2.1 } } := rfl

theorem slotRec_reconcileSlot (s : State) (k j : ModuleId) :
    (s.reconcileSlot k).slotRec j = if j = k then (s.slotRec k).reconciled else s.slotRec j :=
  PerModule.get_set _ _ _ _

theorem slotsReconciled_nil (s : State) : s.slotsReconciled [] = s := by
  have slots : (perModule fun k => if k ∈ ([] : List ModuleId) then (s.slotRec k).reconciled else s.slotRec k) = s.ret.slots :=
    PerModule.ext_get fun k => by simp only [perModule_get, List.not_mem_nil, if_false, State.slotRec]
  rw [State.slotsReconciled, slots]
  rfl

/-- The slots are closed one by one, each by what its own record says (R133, R134). -/
theorem reconcileSlots_eq {ks : List ModuleId} (hks : ks.Nodup) (s : State) :
    ks.foldl State.reconcileSlot s = s.slotsReconciled ks := by
  induction ks generalizing s with
  | nil => exact (slotsReconciled_nil s).symm
  | cons k ks ih =>
    obtain ⟨fresh, rest⟩ := List.nodup_cons.1 hks
    have list : (s.reconcileSlot k).reconciledList ks = s.reconciledList (k :: ks) := by
      refine List.foldl_ext _ _ _ fun l j hj => ?_
      have other : j ≠ k := fun same => fresh (same ▸ hj)
      rw [slotRec_reconcileSlot, if_neg other]
      rfl
    have slots : (perModule fun j => if j ∈ ks then ((s.reconcileSlot k).slotRec j).reconciled else (s.reconcileSlot k).slotRec j) =
        perModule fun j => if j ∈ k :: ks then (s.slotRec j).reconciled else s.slotRec j :=
      PerModule.ext_get fun j => by
        rw [perModule_get, perModule_get, slotRec_reconcileSlot]
        by_cases same : j = k
        · subst same
          simp only [fresh, if_false, if_true, List.mem_cons_self]
        · simp only [same, if_false, List.mem_cons, false_or]
    rw [List.foldl_cons, ih rest, State.slotsReconciled, list, slots]
    rfl

/-- The shock log, its epoch and its overwritten count after reconciliation: every open record is closed, and a DROPOUT record
counts the slots found live where none did before (R59, R135, R137, R157, R159). -/
def State.reconciledLog (s : State) : List ShockRec × Nat × Nat :=
  let closed := s.ret.shocks.map ShockRec.close
  let isFull := decide (32 ≤ s.ret.shocks.length)
  if s.liveRecords = [] ∨ s.interrupted = true then (closed, s.ret.epoch, s.ret.overwritten)
  else if s.ret.epoch < 4294967295 then
    ((if isFull then closed.tail else closed) ++ [{ s.dropout with number := s.ret.epoch + 1, isOpen := false }],
      s.ret.epoch + 1, if isFull then min (s.ret.overwritten + 1) 65535 else s.ret.overwritten)
  else (closed, s.ret.epoch, min (s.ret.overwritten + 1) 65535)

/-- The part once reconciliation is done with its records and its slots. -/
def State.reconciled (s : State) : State :=
  { s.slotsReconciled s.liveRecords with
    ret :=
      { (s.slotsReconciled s.liveRecords).ret with
        shocks := s.reconciledLog.1, epoch := s.reconciledLog.2.1, overwritten := s.reconciledLog.2.2 } }

theorem liveRecords_nodup (s : State) : s.liveRecords.Nodup := List.Nodup.filter _ (by decide)

/-- A log of closed records holds none that a change could reach (R158). -/
theorem map_close_closed {l : List ShockRec} (h : ∀ r ∈ l, r.isOpen = false) (n : Nat) :
    (l.map fun r => if r.number = n ∧ r.isOpen then r.close else r) = l :=
  (List.map_congr_left fun r hr => if_neg fun ⟨_, isOpen⟩ => Bool.eq_false_iff.1 (h r hr) isOpen).trans (List.map_id l)

theorem mem_map_close {l : List ShockRec} {r : ShockRec} (h : r ∈ l.map ShockRec.close) : r.isOpen = false := by
  obtain ⟨_, -, rfl⟩ := List.mem_map.1 h
  rfl

/-- The DROPOUT record in a log of closed records: numbered, and closed once the slots are (R135, R157). -/
theorem createShock_dropout (s : State) (room : s.ret.epoch < 4294967295) :
    s.closeRecords.createShock s.closeRecords.dropout false =
      ({ s with
          ret :=
            { s.ret with
              shocks :=
                (if decide (32 ≤ s.ret.shocks.length) then (s.ret.shocks.map ShockRec.close).tail
                  else s.ret.shocks.map ShockRec.close) ++ [{ s.dropout with number := s.ret.epoch + 1 }]
              epoch := s.ret.epoch + 1
              overwritten :=
                if decide (32 ≤ s.ret.shocks.length) then min (s.ret.overwritten + 1) 65535 else s.ret.overwritten } },
        s.ret.epoch + 1) := by
  have long : (s.ret.shocks.map ShockRec.close).length = s.ret.shocks.length := List.length_map _
  have free : s.closeRecords.ret.epoch < Config.maxWord32 := room
  rw [← long]
  exact if_pos free

theorem createShock_exhausted (s : State) (full : ¬s.ret.epoch < 4294967295) :
    s.closeRecords.createShock s.closeRecords.dropout false =
      ({ s.closeRecords with
          ret := { s.closeRecords.ret with overwritten := min (s.ret.overwritten + 1) 65535 } }, 0) := by
  have none : ¬s.closeRecords.ret.epoch < Config.maxWord32 := full
  exact if_neg none

/-- What reconciliation does, in each of its cases. -/
theorem reconcile_eq (s : State) : s.closeRecords.reconcile s.interrupted = s.reconciled := by
  have live : s.closeRecords.liveRecords = s.liveRecords := rfl
  have fresh := liveRecords_nodup s
  have closed : ∀ r ∈ s.ret.shocks.map ShockRec.close, r.isOpen = false := fun r => mem_map_close
  rw [State.reconcile, live]
  by_cases none : s.liveRecords = []
  · rw [if_pos (List.isEmpty_iff.2 none), State.reconciled, State.reconciledLog, if_pos (.inl none), none,
      slotsReconciled_nil]
    rfl
  rw [if_neg (mt List.isEmpty_iff.1 none)]
  by_cases cut : s.interrupted = true
  · rw [if_pos cut, State.reconciled, State.reconciledLog, if_pos (.inr cut), reconcileSlots_eq fresh]
    rfl
  rw [if_neg cut, State.reconciled, State.reconciledLog, if_neg (not_or.2 ⟨none, cut⟩)]
  by_cases room : s.ret.epoch < 4294967295
  · have kept : ∀ r ∈ (if decide (32 ≤ s.ret.shocks.length) then (s.ret.shocks.map ShockRec.close).tail
        else s.ret.shocks.map ShockRec.close), r.isOpen = false := by
      split
      · exact fun r hr => closed r (List.mem_of_mem_tail hr)
      · exact closed
    have last : [{ s.dropout with number := s.ret.epoch + 1 }].map
        (fun r : ShockRec => if r.number = s.ret.epoch + 1 ∧ r.isOpen then r.close else r) =
        [{ s.dropout with number := s.ret.epoch + 1, isOpen := false }] :=
      congrArg (fun r => [r]) (if_pos ⟨rfl, rfl⟩)
    rw [if_pos room, ← last, ← map_close_closed kept (s.ret.epoch + 1), ← List.map_append, createShock_dropout s room]
    exact congrArg (fun u : State => u.changeShock (s.ret.epoch + 1) ShockRec.close) (reconcileSlots_eq fresh _)
  · rw [if_neg room, ← map_close_closed closed 0, createShock_exhausted s room]
    exact congrArg (fun u : State => u.changeShock 0 ShockRec.close) (reconcileSlots_eq fresh _)

/-! ### The reset (R132, R138, R139) -/

/-- A reset, by what it finds and what reconciliation makes of it (R132). -/
theorem runReset_eq (s : State) (kind : ResetKind) (inp : ResetInputs) :
    s.runReset kind inp =
      let r := s.restored kind inp
      ((r.reconciled.resetModules r.liveRecords).serveFirst (!r.liveRecords.isEmpty || r.interrupted)).residuals
        r.liveRecords inp.rbBusy :=
  congrArg
    (fun u : State =>
      ((u.resetModules (s.restored kind inp).liveRecords).serveFirst
        (!(s.restored kind inp).liveRecords.isEmpty || (s.restored kind inp).interrupted)).residuals
          (s.restored kind inp).liveRecords inp.rbBusy) (reconcile_eq _)

/-- Both events that end a reset run its steps 3 to 9, RESET# released and the ports quiet (R132). -/
theorem exec_runs {inp : ResetInputs} {c : Instr} {kind : ResetKind}
    (h : c = .powerOn inp ∧ s.phase = .unpowered ∧ s.resetPin = false ∧ kind = .powerOn
      ∨ c = .resetRelease inp ∧ s.phase = .inReset kind ∧ s.resetPin = true) :
    exec c s = .next ({ s.begin with resetPin := false }.runReset kind inp) := by
  rcases h with ⟨rfl, off, high, rfl⟩ | ⟨rfl, waits, low⟩
  · have begun : { s.begin with resetPin := false } = s.begin := by
      rw [← high]
      rfl
    simp only [exec, execPowerOn, off, State.powerOn, begun]
    exact congrArg _ (if_neg (Bool.eq_false_iff.1 high))
  · simp only [exec, execResetRelease, low, State.releaseReset, waits, if_true]

/-- Settles O49: blank memory is set up, and the reset finds nothing in it. -/
theorem firstPowerOnSetsUpMemory : Obligations.FirstPowerOnSetsUpMemory := by
  intro s inp c blank h
  have runs : ∃ kind, exec c s = .next ({ s.begin with resetPin := false }.runReset kind inp) := by
    rcases h with ⟨hc, off, high⟩ | ⟨hc, ⟨kind, waits⟩, low⟩
    · exact ⟨.powerOn, exec_runs (.inl ⟨hc, off, high, rfl⟩)⟩
    · exact ⟨kind, exec_runs (.inr ⟨hc, waits, low⟩)⟩
  obtain ⟨kind, run⟩ := runs
  have memory : kind.readMemory s.ret = (.powerOn, Retained.setUp) := if_neg (Bool.eq_false_iff.1 blank)
  refine ⟨_, run, ?_⟩
  rw [runReset_eq, State.restored]
  simp only [State.begin_ret, memory]
  have half : min 10800000000 Settings.defaults.full = 10800000000 := by decide
  exact ⟨rfl, rfl, fun k => by cases k <;> exact ⟨rfl, rfl, rfl, rfl⟩, rfl, rfl, rfl, rfl, rfl, rfl, half, rfl, rfl, rfl, rfl,
    rfl, rfl, rfl⟩

theorem isLive_eq (st : SlotState) : st.isLive = decide (st ≠ .free) := by cases st <;> rfl

theorem reconciled_slotRec (s : State) (k : ModuleId) :
    s.reconciled.slotRec k =
      (match (s.slotRec k).state with
      | .free => s.slotRec k
      | .held => { s.slotRec k with state := .free, last := some .lost }
      | .issued => { s.slotRec k with state := .free, last := some .torn }
      | .suspended => { s.slotRec k with state := .free, last := some .torn }) := by
  have found : k ∈ s.liveRecords ↔ (s.slotRec k).state.isLive = true := by
    rw [State.liveRecords, List.mem_filter]
    exact and_iff_right (by cases k <;> decide)
  have closed : s.reconciled.slotRec k = if k ∈ s.liveRecords then (s.slotRec k).reconciled else s.slotRec k :=
    perModule_get (fun k => if k ∈ s.liveRecords then (s.slotRec k).reconciled else s.slotRec k) k
  rw [closed, SlotRec.reconciled]
  cases state : (s.slotRec k).state with
  | free => exact if_neg fun h => by simpa [state, SlotState.isLive] using found.1 h
  | held => exact if_pos (found.2 (state ▸ rfl))
  | issued => exact if_pos (found.2 (state ▸ rfl))
  | suspended => exact if_pos (found.2 (state ▸ rfl))

/-- The reason of a slot found live (R133). -/
theorem lostOrTorn_reason {st : SlotState} (h : st ≠ .free) : st.lostOrTorn.2 = if st = .held then .lost else .torn := by
  cases st with
  | free => exact absurd rfl h
  | held => rfl
  | issued => rfl
  | suspended => rfl

/-- What reconciliation finds on a memory that holds the marker (R106, R114, R187, R192). -/
theorem restored_of_marker (h : s.ret.marker = true) (kind : ResetKind) (inp : ResetInputs) :
    s.restored kind inp =
      { s with
        straps := { svcSel := inp.svcSel, modCnt := inp.modCnt }
        gauge :=
          Gauge.initial (s.resetCharge kind) inp.sample.toNat (voltageAfresh s.ret.settings inp.sample.toNat)
            (chargeAfresh s.ret.settings (s.resetCharge kind).q)
        clock := StampClock.initial (s.resetStamp kind) } := by
  have memory : kind.readMemory s.ret = (kind, s.ret) := if_pos h
  rw [State.restored, memory]
  cases kind <;> rfl

theorem any_eq_filter {α : Type} (p : α → Bool) (l : List α) : l.any p = !(l.filter p).isEmpty := by
  induction l with
  | nil => rfl
  | cons a l ih => cases h : p a <;> simp [h, ih]

/-- Settles O50: reconciliation on what memory holds, then what the reset serves from. -/
theorem reconciliationClosesEverySlot : Obligations.ReconciliationClosesEverySlot := by
  refine ⟨fun s inp c isWarm marker h => ?_, fun s inp c h => ?_⟩
  · intro found held interrupted stamp full q list closed isFull dropout
    obtain ⟨kind, run, stamped, charged⟩ : ∃ kind,
        exec c s = .next ({ s.begin with resetPin := false }.runReset kind inp)
          ∧ State.resetStamp { s.begin with resetPin := false } kind = stamp
          ∧ (State.resetCharge { s.begin with resetPin := false } kind).q = q := by
      rcases h with ⟨hc, off, high, rfl⟩ | ⟨hc, waits, low⟩
      · exact ⟨.powerOn, exec_runs (.inl ⟨hc, off, high, rfl⟩), rfl, rfl⟩
      · exact ⟨_, exec_runs (.inr ⟨hc, waits, low⟩), by cases isWarm <;> rfl, by cases isWarm <;> rfl⟩
    have restores := restored_of_marker (s := { s.begin with resetPin := false }) marker kind inp
    rw [stamped] at restores
    generalize State.resetCharge { s.begin with resetPin := false } kind = charge at charged restores
    rw [runReset_eq] at run
    generalize State.restored { s.begin with resetPin := false } kind inp = r at run restores
    have live : r.liveRecords = found := by
      rw [restores]
      exact List.filter_congr fun k _ => isLive_eq _
    have listed : r.reconciledList found = list := by
      rw [restores]
      refine List.foldl_ext _ _ _ fun l k hk => ?_
      rw [← lostOrTorn_reason (of_decide_eq_true (List.mem_filter.1 hk).2)]
      rfl
    have logged : { r.dropout with number := s.ret.epoch + 1, isOpen := false } = dropout := by
      rw [State.dropout, live, restores]
      exact congrArg (fun q => ShockRec.mk (s.ret.epoch + 1) .dropout stamp 0 none false 0 (q * 1000 / full)
        (found.length - held.length) held.length false) charged
    have log : r.reconciledLog =
        if found = [] ∨ interrupted = true then (closed, s.ret.epoch, s.ret.overwritten)
        else if s.ret.epoch < 4294967295 then
          ((if isFull then closed.tail else closed) ++ [dropout], s.ret.epoch + 1,
            if isFull then min (s.ret.overwritten + 1) 65535 else s.ret.overwritten)
        else (closed, s.ret.epoch, min (s.ret.overwritten + 1) 65535) := by
      rw [← logged, State.reconciledLog, live, restores]
      rfl
    have loss : (!r.liveRecords.isEmpty || r.interrupted) =
        (ModuleId.all.any (fun k => decide ((s.slotRec k).state ≠ .free)) || interrupted) := by
      rw [live, restores, any_eq_filter]
      rfl
    refine ⟨_, run, rfl, fun k => ⟨by cases k <;> rfl, ?_⟩, rfl, rfl, ?_, ?_, ?_, ?_, ?_, ?_, ?_, ?_, ?_, ?_, ?_, ?_,
      fun k => by cases k <;> exact ⟨rfl, rfl⟩, rfl, rfl⟩
    · exact (reconciled_slotRec r k).trans (by rw [restores]; rfl)
    · exact congrArg (fun b : Bool => if b then 2 else 0) loss
    · rw [restores]; rfl
    · rw [restores]; rfl
    · rw [restores]; rfl
    · rw [← charged, restores]; rfl
    · rw [← listed, ← live]; rfl
    · rw [← listed, ← live]; rfl
    · intro none
      have log := log.trans (if_pos none)
      exact ⟨congrArg Prod.fst log, congrArg (fun l => l.2.1) log, congrArg (fun l => l.2.2) log⟩
    · intro some whole room
      have log := log.trans ((if_neg (not_or.2 ⟨some, Bool.eq_false_iff.1 whole⟩)).trans (if_pos room))
      exact ⟨congrArg Prod.fst log, congrArg (fun l => l.2.1) log, congrArg (fun l => l.2.2) log⟩
    · intro some whole top
      have log := log.trans ((if_neg (not_or.2 ⟨some, Bool.eq_false_iff.1 whole⟩)).trans (if_neg (not_lt.2 top)))
      exact ⟨congrArg Prod.fst log, congrArg (fun l => l.2.1) log, congrArg (fun l => l.2.2) log⟩
    · rw [← live, restores]; rfl
    · intro k
      have starts : (perModule fun k => r.reconciled.residualStarts r.liveRecords inp.rbBusy k).get k =
          r.reconciled.residualStarts r.liveRecords inp.rbBusy k := perModule_get _ k
      have hears : r.reconciled.present k = decide (k.val ≤ inp.modCnt.toNat) := by
        rw [restores]
        rfl
      have isFound : found.contains k = decide ((s.slotRec k).state ≠ .free) := by
        rw [Bool.eq_iff_iff, List.contains_iff_mem, List.mem_filter]
        exact and_iff_right (by cases k <;> decide)
      refine starts.trans ?_
      rw [State.residualStarts, live, hears, isFound]
      simp only [Bool.and_eq_true, Bool.or_eq_true, decide_eq_true_eq, Config.residualLimit]
  · have runs : ∃ kind, exec c s = .next ({ s.begin with resetPin := false }.runReset kind inp) := by
      rcases h with ⟨hc, off, high⟩ | ⟨hc, ⟨kind, waits⟩, low⟩
      · exact ⟨.powerOn, exec_runs (.inl ⟨hc, off, high, rfl⟩)⟩
      · exact ⟨kind, exec_runs (.inr ⟨hc, waits, low⟩)⟩
    obtain ⟨kind, run⟩ := runs
    refine ⟨_, run, ?_⟩
    rw [runReset_eq]
    exact ⟨rfl, rfl, rfl, rfl, rfl, rfl, rfl, rfl, rfl, rfl, rfl, rfl, rfl, rfl, rfl, rfl, rfl, rfl, rfl, rfl, rfl, rfl, rfl, rfl, rfl,
      rfl, rfl, fun k => by cases k <;> exact ⟨rfl, rfl, rfl⟩, rfl, rfl, rfl, rfl, rfl, rfl, rfl, rfl, rfl, rfl⟩

end Sys2Proof.Machine
end

section
/-! PROOFS. The signals of the monitor and of the gauge to the slots: what a request for each module of a list in turn makes of the
insert queue and of the slots (R20, R72 to R78, R86, R89 to R91, R93, R96). -/

namespace Sys2Proof.Machine

variable {s : State} {k : ModuleId}

/-! ### Folds that collect the modules they reach -/

/-- A fold whose step takes up the members of a list that satisfy `p` has collected them at its end. -/
theorem foldl_collects {α β : Type} {S : List α → β} {op : β → α → β} {p : α → Bool}
    (step : ∀ l k, (∀ j ∈ l, p j = true) → op (S l) k = if p k then S (l ++ [k]) else S l) (ks : List α) :
    ks.foldl op (S []) = S (ks.filter p) := by
  induction ks using List.reverseRecOn with
  | nil => rfl
  | append_singleton ks k ih =>
    rw [List.foldl_append, ih, List.foldl_cons, List.foldl_nil, step _ _ fun j hj => (List.mem_filter.1 hj).2,
      List.filter_append]
    cases h : p k with
    | true => rw [if_pos rfl, List.filter_cons_of_pos h, List.filter_nil]
    | false => rw [if_neg Bool.false_ne_true, List.filter_cons_of_neg (Bool.eq_false_iff.1 h), List.filter_nil, List.append_nil]

/-- The same over a list without repetition, where no step meets a member again. -/
theorem foldl_collects_nodup {α β : Type} {S : List α → β} {op : β → α → β} {p : α → Bool}
    (step : ∀ l k, k ∉ l → op (S l) k = if p k then S (l ++ [k]) else S l) {ks : List α} (hks : ks.Nodup) :
    ks.foldl op (S []) = S (ks.filter p) := by
  induction ks using List.reverseRecOn with
  | nil => rfl
  | append_singleton ks k ih =>
    obtain ⟨rest, -, fresh⟩ := List.nodup_append.1 hks
    have absent : k ∉ ks.filter p := fun h => fresh k (List.mem_of_mem_filter h) k (List.mem_singleton_self k) rfl
    rw [List.foldl_append, ih rest, List.foldl_cons, List.foldl_nil, step _ _ absent, List.filter_append]
    cases h : p k with
    | true => rw [if_pos rfl, List.filter_cons_of_pos h, List.filter_nil]
    | false => rw [if_neg Bool.false_ne_true, List.filter_cons_of_neg (Bool.eq_false_iff.1 h), List.filter_nil, List.append_nil]

theorem ModuleId.all_nodup : ModuleId.all.Nodup := by decide

/-- The number of modules grows by one where one module is new. -/
theorem length_filter_all_new {p q : ModuleId → Bool} (hp : p k = false) (hq : q k = true) (other : ∀ j, j ≠ k → q j = p j) :
    (ModuleId.all.filter q).length = (ModuleId.all.filter p).length + 1 := by
  have one (j : ModuleId) : (if q j then 1 else 0) = (if p j then 1 else 0) + if j = k then 1 else 0 := by
    by_cases same : j = k
    · rw [same, hp, hq]
      simp
    · rw [other j same, if_neg same, Nat.add_zero]
  have sum (r : ModuleId → Bool) : (ModuleId.all.filter r).length =
      (if r .m0 then 1 else 0) + (if r .m1 then 1 else 0) + (if r .m2 then 1 else 0) + if r .m3 then 1 else 0 := by
    simp only [ModuleId.all, List.filter_cons, List.filter_nil]
    cases r .m0 <;> cases r .m1 <;> cases r .m2 <;> cases r .m3 <;> rfl
  rw [sum, sum, one, one, one, one]
  cases k <;> simp only [reduceCtorEq, if_false, if_true] <;> omega

theorem grown_succ (n m : Nat) : grow16 (grown n m) = grown n (m + 1) := by
  simp only [grow16, grown, Nat.add_eq_zero_iff, one_ne_zero, and_false, if_false]
  split <;> omega

/-! ### The queue after requests and withdrawals (R20) -/

/-- The entries of one module in the queue. -/
def entriesOf (q : List Insert) (k : ModuleId) : List Insert := q.filter fun e => decide (e.module = k)

theorem queuedFor_eq (q : List Insert) (k : ModuleId) : queuedFor q k = (entriesOf q k).head? := by
  rw [queuedFor, entriesOf, List.head?_filter]

theorem isQueued_eq (s : State) (k : ModuleId) (kind : InsertKind) :
    s.isQueued k kind = (entriesOf s.arb.queue k).any fun e => decide (e.kind = kind) := by
  rw [State.isQueued, entriesOf, List.any_filter]

theorem mem_entriesOf {q : List Insert} {x : Insert} : x ∈ entriesOf q k ↔ x ∈ q ∧ x.module = k := by
  rw [entriesOf, List.mem_filter, decide_eq_true_eq]

/-- The entries of a module in a queue whose entries were replaced module by module. -/
theorem entriesOf_map {f : Insert → Insert} (h : ∀ x, (f x).module = x.module) (q : List Insert) (k : ModuleId) :
    entriesOf (q.map f) k = (entriesOf q k).map f := by
  have same : ((fun e : Insert => decide (e.module = k)) ∘ f) = fun e : Insert => decide (e.module = k) :=
    funext fun x => by rw [Function.comp_apply, h x]
  rw [entriesOf, List.filter_map, same]
  rfl

theorem module_replace (e x : Insert) : (if x.module = e.module then e else x).module = x.module := by
  split
  · exact Eq.symm ‹_›
  · rfl

/-- A request for another module leaves a module's entries (R20). -/
theorem entriesOf_queueRequest (q : List Insert) {e : Insert} (h : k ≠ e.module) :
    entriesOf (queueRequest q e) k = entriesOf q k := by
  unfold queueRequest
  split
  · rw [entriesOf_map (module_replace e)]
    refine (List.map_congr_left fun x hx => if_neg fun same => h ?_).trans (List.map_id _)
    exact (mem_entriesOf.1 hx).2.symm.trans same
  · have none : entriesOf [e] k = [] := List.filter_eq_nil_iff.2 fun x hx same =>
      h ((of_decide_eq_true same).symm.trans (congrArg Insert.module (List.mem_singleton.1 hx)))
    rw [entriesOf, List.filter_append, ← entriesOf, ← entriesOf, none, List.append_nil]

/-- A request leaves its module entries that are its own (R20). -/
theorem entriesOf_queueRequest_self (q : List Insert) (e : Insert) :
    entriesOf (queueRequest q e) e.module ≠ [] ∧ ∀ x ∈ entriesOf (queueRequest q e) e.module, x = e := by
  unfold queueRequest
  split
  case isTrue any =>
    rw [entriesOf_map (module_replace e)]
    refine ⟨fun none => ?_, fun x hx => ?_⟩
    · obtain ⟨y, mem, same⟩ := List.any_eq_true.1 any
      exact List.not_mem_nil (List.map_eq_nil_iff.1 none ▸ mem_entriesOf.2 ⟨mem, of_decide_eq_true same⟩)
    · obtain ⟨y, hy, rfl⟩ := List.mem_map.1 hx
      exact if_pos (mem_entriesOf.1 hy).2
  case isFalse absent =>
    refine ⟨List.ne_nil_of_mem (mem_entriesOf.2 ⟨List.mem_append_right q (List.mem_singleton_self e), rfl⟩), fun x hx => ?_⟩
    obtain ⟨mem, same⟩ := mem_entriesOf.1 hx
    rcases List.mem_append.1 mem with old | new
    · exact absurd (List.any_eq_true.2 ⟨x, old, decide_eq_true same⟩) absent
    · exact List.mem_singleton.1 new

section
variable {q : List Insert} {l : List ModuleId} {kind : InsertKind} {cause : Option ReleaseCause}

theorem requested_append (q : List Insert) (l : List ModuleId) (k : ModuleId) (kind : InsertKind) (cause : Option ReleaseCause) :
    requested q (l ++ [k]) kind cause = queueRequest (requested q l kind cause) { module := k, kind := kind, cause := cause } :=
  List.foldl_append

/-- Requests for other modules leave a module's entries (R20). -/
theorem entriesOf_requested (h : k ∉ l) : entriesOf (requested q l kind cause) k = entriesOf q k := by
  induction l using List.reverseRecOn with
  | nil => rfl
  | append_singleton l j ih =>
    obtain ⟨out, other⟩ := not_or.1 (mt List.mem_append.2 h)
    rw [requested_append, entriesOf_queueRequest _ fun same => other (List.mem_singleton.2 same), ih out]

/-- A module that a request was made for has no other entry (R20). -/
theorem entriesOf_requested_mem (h : k ∈ l) :
    entriesOf (requested q l kind cause) k ≠ []
      ∧ ∀ x ∈ entriesOf (requested q l kind cause) k, x = { module := k, kind := kind, cause := cause } := by
  induction l using List.reverseRecOn with
  | nil => exact absurd h List.not_mem_nil
  | append_singleton l j ih =>
    rw [requested_append]
    by_cases same : k = j
    · subst same
      exact entriesOf_queueRequest_self _ { module := k, kind := kind, cause := cause }
    · rw [entriesOf_queueRequest _ same]
      exact ih ((List.mem_append.1 h).resolve_right fun hj => same (List.mem_singleton.1 hj))

/-- A second request of one kind and cause changes nothing (R20). -/
theorem requested_append_mem (h : k ∈ l) : requested q (l ++ [k]) kind cause = requested q l kind cause := by
  obtain ⟨some, own⟩ := entriesOf_requested_mem (q := q) (kind := kind) (cause := cause) h
  obtain ⟨x, hx⟩ := List.exists_mem_of_ne_nil _ some
  obtain ⟨mem, same⟩ := mem_entriesOf.1 hx
  rw [requested_append, queueRequest, if_pos (List.any_eq_true.2 ⟨x, mem, decide_eq_true same⟩)]
  refine (List.map_congr_left fun y hy => ?_).trans (List.map_id _)
  split
  case isTrue at_ => exact (own y (mem_entriesOf.2 ⟨hy, at_⟩)).symm
  case isFalse => rfl

/-- Entries of other modules taken out leave a module's entries (R20). -/
theorem entriesOf_filter (h : k ∉ l) : entriesOf (q.filter fun e => decide (e.module ∉ l)) k = entriesOf q k := by
  rw [entriesOf, List.filter_filter]
  refine List.filter_congr fun x _ => ?_
  by_cases same : x.module = k
  · simp only [same, h, not_false_eq_true, decide_true, Bool.and_true]
  · simp only [same, decide_false, Bool.false_and]

/-- A request for a module that stays goes through what takes others out (R20). -/
theorem queueRequest_filter {e : Insert} (h : e.module ∉ l) :
    queueRequest (q.filter fun x => decide (x.module ∉ l)) e = (queueRequest q e).filter fun x => decide (x.module ∉ l) := by
  have any : ((q.filter fun x => decide (x.module ∉ l)).any fun x => decide (x.module = e.module)) =
      q.any fun x => decide (x.module = e.module) := by
    rw [List.any_filter]
    refine congrArg q.any (funext fun x => ?_)
    by_cases same : x.module = e.module
    · simp only [same, h, not_false_eq_true, decide_true, Bool.and_true]
    · simp only [same, decide_false, Bool.and_false]
  have kept : ((fun x : Insert => decide (x.module ∉ l)) ∘ fun x => if x.module = e.module then e else x) =
      fun x : Insert => decide (x.module ∉ l) :=
    funext fun x => by rw [Function.comp_apply, module_replace]
  unfold queueRequest
  rw [any]
  split
  · rw [List.filter_map, kept]
  · have own : [e].filter (fun x => decide (x.module ∉ l)) = [e] :=
      List.filter_eq_self.2 fun x hx => decide_eq_true (List.mem_singleton.1 hx ▸ h)
    rw [List.filter_append, own]

end

/-! ### A request for each module of a list (R20, R86, R93, R96) -/

/-- The part once an insert is requested for each module of a list and the module's slot is what `upd` says. -/
def State.inserting (s : State) (kind : InsertKind) (cause : Option ReleaseCause) (upd : ModuleId → SlotLive)
    (l : List ModuleId) : State :=
  { s with
    arb := { s.arb with queue := requested s.arb.queue l kind cause }
    slots := perModule fun k => if k ∈ l then upd k else s.slotLive k }

section
variable {kind : InsertKind} {cause : Option ReleaseCause} {upd : ModuleId → SlotLive} {l : List ModuleId}

theorem perModule_slots (s : State) : (perModule fun k => s.slotLive k) = s.slots := PerModule.ext_get fun k => perModule_get _ k

theorem inserting_nil (s : State) (kind : InsertKind) (cause : Option ReleaseCause) (upd : ModuleId → SlotLive) :
    s.inserting kind cause upd [] = s := by
  have slots : (perModule fun k => if k ∈ ([] : List ModuleId) then upd k else s.slotLive k) = s.slots := by
    simp only [List.not_mem_nil, if_false, perModule_slots]
  rw [State.inserting, slots]
  rfl

theorem slotLive_inserting (k : ModuleId) :
    (s.inserting kind cause upd l).slotLive k = if k ∈ l then upd k else s.slotLive k :=
  perModule_get (fun k => if k ∈ l then upd k else s.slotLive k) k

/-- One more request, and its slot. -/
theorem inserting_append (s : State) (kind : InsertKind) (cause : Option ReleaseCause) (upd : ModuleId → SlotLive)
    (l : List ModuleId) (k : ModuleId) :
    ((s.inserting kind cause upd l).request k kind cause).setSlotLive k (upd k) = s.inserting kind cause upd (l ++ [k]) := by
  have slots : (perModule fun j => if j ∈ l then upd j else s.slotLive j).set k (upd k) =
      perModule fun j => if j ∈ l ++ [k] then upd j else s.slotLive j :=
    PerModule.ext_get fun j => by
      rw [PerModule.get_set, perModule_get, perModule_get]
      by_cases same : j = k
      · simp only [same, if_true, List.mem_append, List.mem_singleton, or_true]
      · simp only [same, if_false, List.mem_append, List.mem_singleton, or_false]
  rw [State.inserting, State.inserting, requested_append, ← slots]
  rfl

/-- A module that was reached before is not changed again. -/
theorem inserting_append_mem (h : k ∈ l) : s.inserting kind cause upd (l ++ [k]) = s.inserting kind cause upd l := by
  have members (j : ModuleId) : j ∈ l ++ [k] ↔ j ∈ l := by
    rw [List.mem_append, List.mem_singleton]
    exact ⟨fun hj => hj.elim id fun same => same ▸ h, .inl⟩
  simp only [State.inserting, requested_append_mem h, members]

theorem queuedCause_inserting (h : k ∉ l) : (s.inserting kind cause upd l).queuedCause k = s.queuedCause k := by
  have entries : entriesOf (requested s.arb.queue l kind cause) k = entriesOf s.arb.queue k := entriesOf_requested h
  have head : queuedFor (s.inserting kind cause upd l).arb.queue k = queuedFor s.arb.queue k := by
    rw [queuedFor_eq, queuedFor_eq, ← entries]
    rfl
  rw [State.queuedCause, State.queuedCause, head]

theorem queuedCause_inserting_mem (h : k ∈ l) :
    (s.inserting kind cause upd l).queuedCause k = if kind = .release then cause else none := by
  obtain ⟨some, own⟩ := entriesOf_requested_mem (q := s.arb.queue) (kind := kind) (cause := cause) h
  obtain ⟨x, rest, entries⟩ := List.exists_cons_of_ne_nil some
  have first : x = { module := k, kind := kind, cause := cause } := own x (entries ▸ List.mem_cons_self)
  have head : queuedFor (s.inserting kind cause upd l).arb.queue k = .some { module := k, kind := kind, cause := cause } := by
    rw [queuedFor_eq, ← first]
    exact congrArg List.head? entries
  rw [State.queuedCause, head]

theorem isQueued_inserting (h : k ∉ l) (other : InsertKind) :
    (s.inserting kind cause upd l).isQueued k other = s.isQueued k other := by
  have entries : entriesOf (requested s.arb.queue l kind cause) k = entriesOf s.arb.queue k := entriesOf_requested h
  rw [isQueued_eq, isQueued_eq, ← entries]
  rfl

end

/-! ### Releases (R76, R77, R86, R89 to R91) -/

/-- The slot is HELD in a step. -/
abbrev SlotLive.heldIn (l : SlotLive) (step : SlotStep) : Bool := decide (l.state = .held) && decide (l.step = some step)

/-- The slot is HELD in WAITING or RELEASE_QUEUED: a RELEASE of it can be requested (R86). -/
def State.releasable (s : State) (k : ModuleId) : Bool := (s.slotLive k).heldIn .waiting || (s.slotLive k).heldIn .releaseQueued

theorem heldIn_iff {l : SlotLive} {step : SlotStep} : l.heldIn step = true ↔ l.state = .held ∧ l.step = some step := by
  rw [SlotLive.heldIn, Bool.and_eq_true, decide_eq_true_eq, decide_eq_true_eq]

theorem setSlotLive_self (s : State) (k : ModuleId) : s.setSlotLive k (s.slotLive k) = s := by
  have slots : s.slots.set k (s.slotLive k) = s.slots := PerModule.set_get _ _
  rw [State.setSlotLive, State.onSlots, slots]

/-- A RELEASE requested for a slot it can be requested for (R86). -/
theorem releaseSlot_releasable (h : s.releasable k = true) (cause : ReleaseCause) :
    s.releaseSlot k cause =
      (s.request k .release (some cause)).setSlotLive k { s.slotLive k with step := some .releaseQueued } := by
  rcases Bool.or_eq_true_iff.1 h with waits | queued
  · obtain ⟨held, step⟩ := heldIn_iff.1 waits
    exact releaseSlot_waiting held step cause
  · obtain ⟨held, step⟩ := heldIn_iff.1 queued
    have same : { s.slotLive k with step := some .releaseQueued } = (s.request k .release (some cause)).slotLive k := by
      rw [← step]
      rfl
    rw [same, setSlotLive_self, State.releaseSlot, slotLive_of held step]

theorem releaseSlot_not_releasable (h : s.releasable k = false) (cause : ReleaseCause) : s.releaseSlot k cause = s := by
  obtain ⟨waits, queued⟩ := Bool.or_eq_false_iff.1 h
  have notWaiting : ¬((s.slotLive k).state = .held ∧ (s.slotLive k).step = some .waiting) := mt heldIn_iff.2 (Bool.eq_false_iff.1 waits)
  have notQueued : ¬((s.slotLive k).state = .held ∧ (s.slotLive k).step = some .releaseQueued) :=
    mt heldIn_iff.2 (Bool.eq_false_iff.1 queued)
  unfold State.releaseSlot
  dsimp only
  split
  · exact absurd ⟨‹_›, ‹_›⟩ notWaiting
  · exact absurd ⟨‹_›, ‹_›⟩ notQueued
  · rfl

/-- The part once a RELEASE is requested for each module of a list (R86). -/
def State.releasing (s : State) (cause : ReleaseCause) (l : List ModuleId) : State :=
  s.inserting .release (some cause) (fun k => { s.slotLive k with step := some .releaseQueued }) l

section
variable {cause : ReleaseCause} {l : List ModuleId}

theorem slotLive_releasing (k : ModuleId) :
    (s.releasing cause l).slotLive k = if k ∈ l then { s.slotLive k with step := some .releaseQueued } else s.slotLive k :=
  slotLive_inserting k

theorem releasable_releasing (h : s.releasable k = true) : (s.releasing cause l).releasable k = true := by
  rw [State.releasable, slotLive_releasing]
  split
  · have held : (s.slotLive k).state = .held := (Bool.or_eq_true_iff.1 h).elim (fun h => (heldIn_iff.1 h).1) fun h => (heldIn_iff.1 h).1
    exact Bool.or_eq_true_iff.2 (.inr (heldIn_iff.2 ⟨held, rfl⟩))
  · exact h

/-- One more RELEASE, asked for again or not (R86). -/
theorem releaseSlot_releasing (h : s.releasable k = true) :
    (s.releasing cause l).releaseSlot k cause = s.releasing cause (l ++ [k]) := by
  have slot : ({ (s.releasing cause l).slotLive k with step := some .releaseQueued } : SlotLive) =
      { s.slotLive k with step := some .releaseQueued } := by
    rw [slotLive_releasing]
    split <;> rfl
  rw [releaseSlot_releasable (releasable_releasing h), slot]
  exact inserting_append s .release (some cause) _ l k

/-- RELEASEs requested, one after the other, for the slots of a condition that a RELEASE ends and that no other slot's touches. -/
theorem foldl_releases {cond : State → ModuleId → Bool} (releasable : ∀ k, cond s k = true → s.releasable k = true)
    (untouched : ∀ l k, k ∉ l → cond (s.releasing cause l) k = cond s k)
    (ended : ∀ l k, k ∈ l → cond (s.releasing cause l) k = false) (ks : List ModuleId) :
    ks.foldl (fun t k => if cond t k then t.releaseSlot k cause else t) s = s.releasing cause (ks.filter (cond s)) := by
  have start : s.releasing cause [] = s := inserting_nil s _ _ _
  have step (l : List ModuleId) (k : ModuleId) (hl : ∀ j ∈ l, cond s j = true) :
      (if cond (s.releasing cause l) k then (s.releasing cause l).releaseSlot k cause else s.releasing cause l) =
        if cond s k then s.releasing cause (l ++ [k]) else s.releasing cause l := by
    by_cases hk : k ∈ l
    · rw [ended l k hk, hl k hk, if_neg Bool.false_ne_true, if_pos rfl]
      exact (inserting_append_mem hk).symm
    · rw [untouched l k hk]
      exact ite_congr rfl (fun h => releaseSlot_releasing (releasable k h)) fun _ => rfl
  have collected := foldl_collects (S := s.releasing cause)
    (op := fun t k => if cond t k then t.releaseSlot k cause else t) step ks
  rwa [start] at collected

theorem isWaiting_releasing (h : k ∉ l) : (s.releasing cause l).isWaiting k = s.isWaiting k := by
  rw [State.isWaiting, slotLive_releasing, if_neg h]
  rfl

theorem isWaiting_releasing_mem (h : k ∈ l) : (s.releasing cause l).isWaiting k = false := by
  rw [State.isWaiting, slotLive_releasing, if_pos h]
  exact Bool.and_false _

theorem isQueuedWith_releasing (h : k ∉ l) (other : ReleaseCause) :
    (s.releasing cause l).isQueuedWith k other = s.isQueuedWith k other := by
  rw [State.isQueuedWith, slotLive_releasing, if_neg h, State.releasing, queuedCause_inserting h]
  rfl

theorem isQueuedWith_releasing_mem (h : k ∈ l) {other : ReleaseCause} (different : cause ≠ other) :
    (s.releasing cause l).isQueuedWith k other = false := by
  have queued : (s.releasing cause l).queuedCause k = some cause := (queuedCause_inserting_mem h).trans (if_pos rfl)
  rw [State.isQueuedWith, queued, decide_eq_false fun same => different (Option.some.inj same), Bool.and_false]

end

theorem releasable_of_isWaiting (h : s.isWaiting k = true) : s.releasable k = true := Bool.or_eq_true_iff.2 (.inl h)

theorem releasable_of_isQueuedWith {cause : ReleaseCause} (h : s.isQueuedWith k cause = true) : s.releasable k = true :=
  Bool.or_eq_true_iff.2 (.inr (Bool.and_eq_true_iff.1 h).1)

/-! ### RESUME requests (R76, R77, R96) -/

/-- The slot is SUSPENDED in PARKED. -/
def State.isParked (s : State) (k : ModuleId) : Bool :=
  decide ((s.slotLive k).state = .suspended) && decide ((s.slotLive k).step = some .parked)

theorem resumeSlot_eq (s : State) (k : ModuleId) :
    s.resumeSlot k =
      if s.isParked k then (s.request k .resume).setSlotLive k { s.slotLive k with step := some .resuming } else s := by
  unfold State.resumeSlot State.isParked
  dsimp only
  split
  case h_1 suspended parked => rw [suspended, parked]; rfl
  case h_2 other =>
    rw [if_neg fun h => ?_]
    obtain ⟨suspended, parked⟩ := Bool.and_eq_true_iff.1 h
    exact other (of_decide_eq_true suspended) (of_decide_eq_true parked)

theorem resumeAll_eq (s : State) :
    s.resumeAll =
      s.inserting .resume none (fun k => { s.slotLive k with step := some .resuming }) (ModuleId.all.filter s.isParked) := by
  have step (l : List ModuleId) (k : ModuleId) (hk : k ∉ l) :
      (s.inserting .resume none (fun k => { s.slotLive k with step := some .resuming }) l).resumeSlot k =
        if s.isParked k then s.inserting .resume none (fun k => { s.slotLive k with step := some .resuming }) (l ++ [k])
        else s.inserting .resume none (fun k => { s.slotLive k with step := some .resuming }) l := by
    have slot : (s.inserting .resume none (fun k => { s.slotLive k with step := some .resuming }) l).slotLive k = s.slotLive k :=
      (slotLive_inserting k).trans (if_neg hk)
    rw [resumeSlot_eq, State.isParked, slot]
    exact ite_congr rfl (fun _ => inserting_append s _ _ _ l k) fun _ => rfl
  have collected := foldl_collects_nodup step ModuleId.all_nodup
  rwa [inserting_nil] at collected

end Sys2Proof.Machine
end

section
/-! PROOFS. The signals of the monitor and of the gauge, each as one change of the slots it reaches (R72 to R78, R86, R89 to R91,
R93, R96, R128). -/

namespace Sys2Proof.Machine

variable {s : State} {k : ModuleId}

/-! ### Holds over their limit (R86, R89) -/

/-- The part once the holds of the modules of a list are broken. -/
def State.holdsBroken (s : State) (l : List ModuleId) : State :=
  { s.releasing .holdLimit l with
    counters :=
      { s.counters with
        holdBreaks := grown s.counters.holdBreaks (ModuleId.all.filter fun k => decide (k ∈ l)).length }
    causes := if l = [] then s.causes else s.causes ||| 32 }

/-- Membership in a list with one more member. -/
theorem mem_append_singleton {l : List ModuleId} {j : ModuleId} : j ∈ l ++ [k] ↔ j ∈ l ∨ j = k := by
  rw [List.mem_append, List.mem_singleton]

theorem mem_append_of_mem {l : List ModuleId} (h : k ∈ l) (j : ModuleId) : j ∈ l ++ [k] ↔ j ∈ l := by
  rw [mem_append_singleton]
  exact ⟨fun hj => hj.elim id fun same => same ▸ h, .inl⟩

theorem append_singleton_ne_nil (l : List ModuleId) (k : ModuleId) : ¬l ++ [k] = [] :=
  List.append_ne_nil_of_right_ne_nil l (List.cons_ne_nil k [])

/-- A cause raised once stays raised (R179). -/
theorem raise_again (c : Prop) [Decidable c] (causes bit : BitVec 8) : (if c then causes else causes ||| bit) ||| bit = causes ||| bit := by
  split
  · rfl
  · rw [BitVec.or_assoc, BitVec.or_self]

theorem holdsBroken_append_mem {l : List ModuleId} (h : k ∈ l) : s.holdsBroken (l ++ [k]) = s.holdsBroken l := by
  have released : s.releasing .holdLimit (l ++ [k]) = s.releasing .holdLimit l := inserting_append_mem h
  simp only [State.holdsBroken, released, mem_append_of_mem h, append_singleton_ne_nil, List.ne_nil_of_mem h, if_false]

/-- One more hold broken (R89). -/
theorem breakHold_holdsBroken {l : List ModuleId} (h : s.releasable k = true) (new : k ∉ l) :
    (s.holdsBroken l).breakHold k = s.holdsBroken (l ++ [k]) := by
  have released : (s.holdsBroken l).releaseSlot k .holdLimit =
      { s.releasing .holdLimit (l ++ [k]) with
        counters := (s.holdsBroken l).counters, causes := (s.holdsBroken l).causes } := by
    rw [← releaseSlot_releasing h, releaseSlot_releasable (s := s.holdsBroken l) (releasable_releasing (cause := .holdLimit) h),
      releaseSlot_releasable (s := s.releasing .holdLimit l) (releasable_releasing h)]
    rfl
  have more : (ModuleId.all.filter fun j => decide (j ∈ l ++ [k])).length =
      (ModuleId.all.filter fun j => decide (j ∈ l)).length + 1 :=
    length_filter_all_new (k := k) (decide_eq_false new) (decide_eq_true (mem_append_singleton.2 (.inr rfl))) fun j hj =>
      decide_eq_decide.2 (mem_append_singleton.trans (or_iff_left hj))
  have causes : (s.holdsBroken l).causes ||| 32 = s.causes ||| 32 := raise_again _ _ _
  have reached : s.holdsBroken (l ++ [k]) =
      { s.releasing .holdLimit (l ++ [k]) with
        counters := { s.counters with holdBreaks := grow16 (s.holdsBroken l).counters.holdBreaks }
        causes := (s.holdsBroken l).causes ||| 32 } := by
    rw [State.holdsBroken, more, if_neg (append_singleton_ne_nil l k), ← grown_succ, causes]
    rfl
  rw [State.breakHold, released, reached]
  rfl

theorem holdOver_holdsBroken {l : List ModuleId} (h : k ∉ l) : (s.holdsBroken l).holdOver k = s.holdOver k := by
  have waiting : (s.holdsBroken l).isWaiting k = s.isWaiting k := isWaiting_releasing (cause := .holdLimit) h
  rw [State.holdOver, waiting]
  rfl

theorem holdOver_holdsBroken_mem {l : List ModuleId} (h : k ∈ l) : (s.holdsBroken l).holdOver k = false := by
  have waiting : (s.holdsBroken l).isWaiting k = false := isWaiting_releasing_mem (cause := .holdLimit) h
  rw [State.holdOver, waiting, Bool.false_and]

theorem judgeHolds_eq (s : State) : s.judgeHolds = s.holdsBroken (s.releaseQueue.filter s.holdOver) := by
  have start : s.holdsBroken [] = s := by
    have released : s.releasing .holdLimit [] = s := inserting_nil s _ _ _
    rw [State.holdsBroken, released]
    rfl
  have step (l : List ModuleId) (k : ModuleId) (hl : ∀ j ∈ l, s.holdOver j = true) :
      (if (s.holdsBroken l).holdOver k then (s.holdsBroken l).breakHold k else s.holdsBroken l) =
        if s.holdOver k then s.holdsBroken (l ++ [k]) else s.holdsBroken l := by
    by_cases hk : k ∈ l
    · rw [holdOver_holdsBroken_mem hk, hl k hk, if_neg Bool.false_ne_true, if_pos rfl, holdsBroken_append_mem hk]
    · rw [holdOver_holdsBroken hk]
      exact ite_congr rfl
        (fun h => breakHold_holdsBroken (releasable_of_isWaiting (Bool.and_eq_true_iff.1 h).1) hk) fun _ => rfl
  have collected := foldl_collects (S := s.holdsBroken) (op := fun t k => if t.holdOver k then t.breakHold k else t) step
    s.releaseQueue
  rwa [start] at collected

/-! ### The entries into CALM and BLIND (R76, R77) -/

/-- The part once RELEASEs are requested for the modules of one list and RESUMEs for those of another. -/
theorem resumeAll_releasing (s : State) (cause : ReleaseCause) {l : List ModuleId} (hl : ∀ k ∈ l, s.releasable k = true) :
    (s.releasing cause l).resumeAll =
      { s with
        arb :=
          { s.arb with
            queue := requested (requested s.arb.queue l .release (some cause)) (ModuleId.all.filter s.isParked) .resume none }
        slots := perModule fun k =>
          if k ∈ l then { s.slotLive k with step := some .releaseQueued }
          else if k ∈ ModuleId.all.filter s.isParked then { s.slotLive k with step := some .resuming }
          else s.slotLive k } := by
  have held (k : ModuleId) (hk : k ∈ l) : (s.slotLive k).state = .held :=
    (Bool.or_eq_true_iff.1 (hl k hk)).elim (fun h => (heldIn_iff.1 h).1) fun h => (heldIn_iff.1 h).1
  have parked : (s.releasing cause l).isParked = s.isParked := by
    funext k
    rw [State.isParked, slotLive_releasing]
    split
    · rw [State.isParked, held k ‹_›]
      rfl
    · rfl
  have slots : (perModule fun k =>
      if k ∈ ModuleId.all.filter s.isParked then { (s.releasing cause l).slotLive k with step := some .resuming }
      else (s.releasing cause l).slotLive k) = perModule fun k =>
        if k ∈ l then { s.slotLive k with step := some .releaseQueued }
        else if k ∈ ModuleId.all.filter s.isParked then { s.slotLive k with step := some .resuming }
        else s.slotLive k :=
    PerModule.ext_get fun k => by
      rw [perModule_get, perModule_get, slotLive_releasing]
      by_cases hk : k ∈ l
      · have out : k ∉ ModuleId.all.filter s.isParked := fun h => by
          have suspended := (Bool.and_eq_true_iff.1 (List.mem_filter.1 h).2).1
          exact absurd ((held k hk).symm.trans (of_decide_eq_true suspended)) (by decide)
        simp only [if_neg out, if_pos hk]
      · simp only [if_neg hk]
  rw [resumeAll_eq, parked, ← slots]
  rfl

theorem calmSignals_eq (s : State) : s.calmSignals = (s.releasing .settled (s.releaseQueue.filter s.isWaiting)).resumeAll := by
  rw [State.calmSignals, foldl_releases (cond := State.isWaiting) (fun _ => releasable_of_isWaiting)
    (fun _ _ => isWaiting_releasing) fun _ _ => isWaiting_releasing_mem]

theorem blindSignals_eq (s : State) :
    s.blindSignals =
      (s.releasing .blind (s.releaseQueue.filter fun k => s.isWaiting k || s.isQueuedWith k .settled)).resumeAll := by
  rw [State.blindSignals, foldl_releases (cond := fun s k => s.isWaiting k || s.isQueuedWith k .settled)]
  · exact fun k h => (Bool.or_eq_true_iff.1 h).elim releasable_of_isWaiting releasable_of_isQueuedWith
  · intro l k hk
    rw [isWaiting_releasing hk, isQueuedWith_releasing hk]
  · intro l k hk
    rw [isWaiting_releasing_mem hk, isQueuedWith_releasing_mem hk (by decide)]
    rfl

end Sys2Proof.Machine
end

section
/-! PROOFS. A departure from CALM and the level's entry into CRITICAL, each as one change of the slots it reaches (R72 to R75, R91,
R93, R128). -/

namespace Sys2Proof.Machine

variable {s : State} {k : ModuleId}

/-! ### Exposures (R72, R73) -/

/-- A departure reaches the slot: its operation is on its module, or its RELEASE runs (R73). -/
def State.reached (s : State) (k : ModuleId) : Bool :=
  decide ((s.slotLive k).state = .issued) || decide ((s.slotLive k).state = .suspended) || (s.slotLive k).heldIn .releasing

/-- The slot is marked exposed by a departure (R73). -/
def State.exposes (s : State) (k : ModuleId) : Bool := decide ((s.slotRec k).exposure = none) && s.reached k

/-- The record of a slot marked exposed to record `n` (R73). -/
def State.exposedRec (s : State) (n : Nat) (k : ModuleId) : SlotRec :=
  { s.slotRec k with
    exposure := some
      { record := n
        offset :=
          if (s.slotLive k).state = .held then 0
          else min (s.now / 1000 - (s.slotLive k).issueMs.getD (s.now / 1000)) 65535 } }

/-- The part once the slots of a list are exposed to record `n` (R72, R73). -/
def State.exposing (s : State) (n : Nat) (l : List ModuleId) : State :=
  { s with
    ret :=
      { s.ret with
        slots := perModule fun k => if k ∈ l then s.exposedRec n k else s.slotRec k
        shocks := s.ret.shocks.map fun r =>
          if r.number = n ∧ r.isOpen = true then
            { r with exposed := r.exposed + (l.filter fun k => decide (k ∉ s.mon.exposedCounted)).length }
          else r }
    mon := { s.mon with exposedCounted := s.mon.exposedCounted ++ l.filter fun k => decide (k ∉ s.mon.exposedCounted) } }

theorem exposing_nil (s : State) (n : Nat) : s.exposing n [] = s := by
  have slots : (perModule fun k => if k ∈ ([] : List ModuleId) then s.exposedRec n k else s.slotRec k) = s.ret.slots :=
    PerModule.ext_get fun k => by simp only [perModule_get, List.not_mem_nil, if_false, State.slotRec]
  have shocks : (s.ret.shocks.map fun r => if r.number = n ∧ r.isOpen = true then { r with exposed := r.exposed + 0 } else r) =
      s.ret.shocks := by
    refine (List.map_congr_left fun r _ => ?_).trans (List.map_id _)
    split <;> rfl
  have counted : s.mon.exposedCounted ++ [] = s.mon.exposedCounted := List.append_nil _
  rw [State.exposing, slots, List.filter_nil, List.length_nil, shocks, counted]

theorem slotRec_exposing {n : Nat} {l : List ModuleId} (k : ModuleId) :
    (s.exposing n l).slotRec k = if k ∈ l then s.exposedRec n k else s.slotRec k :=
  perModule_get (fun k => if k ∈ l then s.exposedRec n k else s.slotRec k) k

theorem isErase_exposing {n : Nat} {l : List ModuleId} (k : ModuleId) :
    ((s.exposing n l).slotRec k).isErase = (s.slotRec k).isErase := by
  rw [slotRec_exposing]
  split <;> rfl

theorem exposeSlot_eq {n : Nat} (hn : s.mon.openRec = some n) (k : ModuleId) :
    s.exposeSlot k = if s.exposes k then (s.setSlotRec k (s.exposedRec n k)).countExposed k else s := by
  have bare (offset : Nat) : s.markExposed k offset =
      if decide ((s.slotRec k).exposure = none) then
        (s.setSlotRec k { s.slotRec k with exposure := some { record := n, offset := min offset 65535 } }).countExposed k
      else s := by
    rw [State.markExposed, hn]
    cases (s.slotRec k).exposure <;> rfl
  cases hs : (s.slotLive k).state with
  | free =>
    simp only [State.exposeSlot, State.exposes, State.reached, SlotLive.heldIn, hs, reduceCtorEq, decide_false, Bool.or_self,
      Bool.false_and, Bool.and_false, Bool.false_eq_true, if_false]
  | issued =>
    simp only [State.exposeSlot, State.exposes, State.reached, State.exposedRec, hs, reduceCtorEq, decide_true, Bool.true_or,
      Bool.and_true, if_false, bare]
    rfl
  | suspended =>
    simp only [State.exposeSlot, State.exposes, State.reached, State.exposedRec, hs, reduceCtorEq, decide_true, Bool.true_or,
      Bool.or_true, Bool.and_true, if_false, bare]
    rfl
  | held =>
    by_cases hstep : (s.slotLive k).step = some .releasing
    · simp only [State.exposeSlot, State.exposes, State.reached, State.exposedRec, SlotLive.heldIn, hs, hstep, decide_true,
        Bool.true_and, Bool.or_true, Bool.and_true, if_true, bare, Nat.zero_min]
    · have out : ¬s.exposes k = true := fun h => by
        simp [State.exposes, State.reached, SlotLive.heldIn, hs, hstep] at h
      rw [if_neg out]
      unfold State.exposeSlot
      dsimp only
      rw [hs]
      split
      · exact absurd ‹_› (by decide)
      · exact absurd ‹_› (by decide)
      · exact absurd ‹_› hstep
      · rfl

/-- A record that is open and carries the number counts more exposed modules (R72). -/
def countedExposed (n m : Nat) (r : ShockRec) : ShockRec :=
  if r.number = n ∧ r.isOpen = true then { r with exposed := r.exposed + m } else r

theorem map_countedExposed (l : List ShockRec) (n a b : Nat) :
    (l.map (countedExposed n a)).map (countedExposed n b) = l.map (countedExposed n (a + b)) := by
  rw [List.map_map]
  refine List.map_congr_left fun r _ => ?_
  rw [Function.comp_apply]
  by_cases its : r.number = n ∧ r.isOpen = true
  · have still : ({ r with exposed := r.exposed + a } : ShockRec).number = n ∧ ({ r with exposed := r.exposed + a } : ShockRec).isOpen = true :=
      its
    rw [countedExposed, countedExposed, countedExposed, if_pos its, if_pos its, if_pos still, Nat.add_assoc]
  · rw [countedExposed, countedExposed, countedExposed, if_neg its, if_neg its, if_neg its]

/-- One more slot exposed: its module is counted unless it was (R72). -/
theorem exposing_append {n : Nat} (hn : s.mon.openRec = some n) {l : List ModuleId} (new : k ∉ l) :
    ((s.exposing n l).setSlotRec k (s.exposedRec n k)).countExposed k = s.exposing n (l ++ [k]) := by
  have slots : (perModule fun j => if j ∈ l then s.exposedRec n j else s.slotRec j).set k (s.exposedRec n k) =
      perModule fun j => if j ∈ l ++ [k] then s.exposedRec n j else s.slotRec j :=
    PerModule.ext_get fun j => by
      rw [PerModule.get_set, perModule_get, perModule_get]
      by_cases same : j = k
      · simp only [same, if_true, mem_append_singleton, or_true]
      · simp only [same, if_false, mem_append_singleton, or_false]
  have counted : k ∈ (s.exposing n l).mon.exposedCounted ↔ k ∈ s.mon.exposedCounted :=
    List.mem_append.trans (or_iff_left fun h => new (List.mem_of_mem_filter h))
  have more : (l ++ [k]).filter (fun j => decide (j ∉ s.mon.exposedCounted)) =
      (l.filter fun j => decide (j ∉ s.mon.exposedCounted)) ++
        if k ∈ (s.exposing n l).mon.exposedCounted then [] else [k] := by
    rw [List.filter_append]
    by_cases before : k ∈ s.mon.exposedCounted
    · have none : [k].filter (fun j => decide (j ∉ s.mon.exposedCounted)) = [] :=
        List.filter_eq_nil_iff.2 fun j hj h => of_decide_eq_true h (List.mem_singleton.1 hj ▸ before)
      rw [if_pos (counted.2 before), none]
    · have own : [k].filter (fun j => decide (j ∉ s.mon.exposedCounted)) = [k] :=
        List.filter_eq_self.2 fun j hj => decide_eq_true (List.mem_singleton.1 hj ▸ before)
      rw [if_neg (mt counted.1 before), own]
  have shocks : ((s.exposing n l).ret.shocks.map fun x =>
      if k ∉ (s.exposing n l).mon.exposedCounted ∧ x.number = n ∧ x.isOpen = true then { x with exposed := x.exposed + 1 } else x) =
      (s.exposing n (l ++ [k])).ret.shocks := by
    have one : (fun x : ShockRec =>
        if k ∉ (s.exposing n l).mon.exposedCounted ∧ x.number = n ∧ x.isOpen = true then { x with exposed := x.exposed + 1 }
        else x) =
        countedExposed n (if k ∈ (s.exposing n l).mon.exposedCounted then [] else [k]).length := by
      funext x
      rw [countedExposed]
      by_cases before : k ∈ (s.exposing n l).mon.exposedCounted
      · rw [if_neg fun h => h.1 before, if_pos before]
        split <;> rfl
      · rw [if_neg before]
        exact if_congr (and_iff_right before) rfl rfl
    rw [one]
    refine (map_countedExposed s.ret.shocks n _ _).trans ?_
    rw [← List.length_append, ← more]
    rfl
  have mon : (s.exposing n l).mon.exposedCounted ++ (if k ∈ (s.exposing n l).mon.exposedCounted then [] else [k]) =
      (s.exposing n (l ++ [k])).mon.exposedCounted := by
    refine (List.append_assoc _ _ _).trans ?_
    rw [← more]
    rfl
  have reached : s.exposing n (l ++ [k]) =
      { s with
        ret :=
          { s.ret with
            slots := perModule fun j => if j ∈ l ++ [k] then s.exposedRec n j else s.slotRec j
            shocks := (s.exposing n (l ++ [k])).ret.shocks }
        mon := { s.mon with exposedCounted := (s.exposing n (l ++ [k])).mon.exposedCounted } } := rfl
  rw [countExposed_eq (n := n) (by exact hn), reached, ← slots, ← shocks, ← mon]
  rfl

theorem exposeAll_eq {n : Nat} (hn : s.mon.openRec = some n) :
    ModuleId.all.foldl State.exposeSlot s = s.exposing n (ModuleId.all.filter s.exposes) := by
  have step (l : List ModuleId) (k : ModuleId) (hk : k ∉ l) :
      (s.exposing n l).exposeSlot k = if s.exposes k then s.exposing n (l ++ [k]) else s.exposing n l := by
    have record : (s.exposing n l).slotRec k = s.slotRec k := (slotRec_exposing k).trans (if_neg hk)
    have same : (s.exposing n l).exposes k = s.exposes k := by
      rw [State.exposes, record]
      rfl
    have exposed : (s.exposing n l).exposedRec n k = s.exposedRec n k := by
      rw [State.exposedRec, record]
      rfl
    rw [exposeSlot_eq (s := s.exposing n l) hn, same, exposed]
    exact ite_congr rfl (fun _ => exposing_append hn hk) fun _ => rfl
  have collected := foldl_collects_nodup (S := s.exposing n) step ModuleId.all_nodup
  rwa [exposing_nil] at collected

/-! ### SUSPEND requests (R74, R93) -/

/-- The slot's erase is on its module or on its way there (R74). -/
def State.suspends (s : State) (k : ModuleId) : Bool :=
  (s.slotRec k).isErase
    && ((decide ((s.slotLive k).state = .issued) && decide ((s.slotLive k).step = some .busy))
      || (s.slotLive k).heldIn .releasing
      || (decide ((s.slotLive k).state = .suspended) && decide ((s.slotLive k).step = some .resuming)))

/-- The slot once its SUSPEND is requested (R93). -/
def State.suspendedLive (s : State) (k : ModuleId) : SlotLive :=
  { s.slotLive k with
    suspendFlag := true
    step :=
      if (s.slotLive k).state = .issued then some .suspending
      else if (s.slotLive k).state = .suspended ∧ s.isQueued k .resume = true then some .rechecking
      else (s.slotLive k).step }

theorem suspendSlot_eq (s : State) (k : ModuleId) :
    s.suspendSlot k = if s.suspends k then (s.request k .suspend).setSlotLive k (s.suspendedLive k) else s := by
  rw [State.suspends]
  cases erase : (s.slotRec k).isErase with
  | false =>
    rw [Bool.false_and, if_neg Bool.false_ne_true]
    exact if_neg (Bool.eq_false_iff.1 erase)
  | true =>
    rw [Bool.true_and]
    refine (if_pos erase).trans ?_
    dsimp only
    split
    case h_1 state step =>
      have live : s.suspendedLive k = { s.slotLive k with step := some .suspending, suspendFlag := true } := by
        rw [State.suspendedLive, if_pos state]
      exact (congrArg _ live.symm).trans (if_pos (by rw [state, step]; rfl)).symm
    case h_2 state step =>
      have live : s.suspendedLive k = { s.slotLive k with suspendFlag := true } := by
        rw [State.suspendedLive, if_neg fun h => absurd (state.symm.trans h) (by decide),
          if_neg fun h => absurd (state.symm.trans h.1) (by decide)]
      exact (congrArg _ live.symm).trans (if_pos (by rw [heldIn_iff.2 ⟨state, step⟩, Bool.or_true, Bool.true_or])).symm
    case h_3 state step =>
      have live : s.suspendedLive k =
          { s.slotLive k with
            step := some (if s.isQueued k .resume then .rechecking else .resuming), suspendFlag := true } := by
        rw [State.suspendedLive, if_neg fun h => absurd (state.symm.trans h) (by decide), apply_ite some]
        simp only [state, step, true_and]
      exact (congrArg _ live.symm).trans (if_pos (Bool.or_eq_true_iff.2 (.inr (by rw [state, step]; rfl)))).symm
    case h_4 working going parked =>
      refine (if_neg fun h => ?_).symm
      rcases Bool.or_eq_true_iff.1 h with h | h
      · rcases Bool.or_eq_true_iff.1 h with h | h
        · exact working (of_decide_eq_true (Bool.and_eq_true_iff.1 h).1) (of_decide_eq_true (Bool.and_eq_true_iff.1 h).2)
        · exact going (heldIn_iff.1 h).1 (heldIn_iff.1 h).2
      · exact parked (of_decide_eq_true (Bool.and_eq_true_iff.1 h).1) (of_decide_eq_true (Bool.and_eq_true_iff.1 h).2)

theorem suspendAll_eq (s : State) :
    ModuleId.all.foldl State.suspendSlot s = s.inserting .suspend none s.suspendedLive (ModuleId.all.filter s.suspends) := by
  have step (l : List ModuleId) (k : ModuleId) (hk : k ∉ l) :
      (s.inserting .suspend none s.suspendedLive l).suspendSlot k =
        if s.suspends k then s.inserting .suspend none s.suspendedLive (l ++ [k])
        else s.inserting .suspend none s.suspendedLive l := by
    have slot : (s.inserting .suspend none s.suspendedLive l).slotLive k = s.slotLive k := (slotLive_inserting k).trans (if_neg hk)
    have same : (s.inserting .suspend none s.suspendedLive l).suspends k = s.suspends k := by
      rw [State.suspends, slot]
      rfl
    have live : (s.inserting .suspend none s.suspendedLive l).suspendedLive k = s.suspendedLive k := by
      rw [State.suspendedLive, slot, isQueued_inserting hk]
      rfl
    rw [suspendSlot_eq, same, live]
    exact ite_congr rfl (fun _ => inserting_append s _ _ _ l k) fun _ => rfl
  have collected := foldl_collects_nodup step ModuleId.all_nodup
  rwa [inserting_nil] at collected

/-! ### Releases withdrawn (R75) -/

/-- The slot's RELEASE with cause SETTLED or BLIND is queued (R75). -/
def State.recalls (s : State) (k : ModuleId) : Bool := s.isQueuedWith k .settled || s.isQueuedWith k .blind

/-- The part once the requests of the modules of a list are withdrawn and their slots wait (R75). -/
def State.recalling (s : State) (l : List ModuleId) : State :=
  { s with
    arb := { s.arb with queue := s.arb.queue.filter fun e => decide (e.module ∉ l) }
    slots := perModule fun k => if k ∈ l then { s.slotLive k with step := some .waiting } else s.slotLive k }

theorem recalling_nil (s : State) : s.recalling [] = s := by
  have slots : (perModule fun k => if k ∈ ([] : List ModuleId) then { s.slotLive k with step := some .waiting } else s.slotLive k) =
      s.slots := by
    simp only [List.not_mem_nil, if_false, perModule_slots]
  have queue : (s.arb.queue.filter fun e => decide (e.module ∉ ([] : List ModuleId))) = s.arb.queue :=
    List.filter_eq_self.2 fun e _ => decide_eq_true List.not_mem_nil
  rw [State.recalling, slots, queue]

theorem slotLive_recalling {l : List ModuleId} (k : ModuleId) :
    (s.recalling l).slotLive k = if k ∈ l then { s.slotLive k with step := some .waiting } else s.slotLive k :=
  perModule_get (fun k => if k ∈ l then ({ s.slotLive k with step := some .waiting } : SlotLive) else s.slotLive k) k

theorem isQueuedWith_recalling {l : List ModuleId} (h : k ∉ l) (cause : ReleaseCause) :
    (s.recalling l).isQueuedWith k cause = s.isQueuedWith k cause := by
  have entries : entriesOf (s.recalling l).arb.queue k = entriesOf s.arb.queue k := entriesOf_filter h
  have queued : (s.recalling l).queuedCause k = s.queuedCause k := by
    rw [State.queuedCause, State.queuedCause, queuedFor_eq, queuedFor_eq, entries]
  rw [State.isQueuedWith, slotLive_recalling, if_neg h, queued]
  rfl

theorem filter_not_mem_append (q : List Insert) (l : List ModuleId) (k : ModuleId) :
    ((q.filter fun e => decide (e.module ∉ l)).filter fun e => decide (e.module ≠ k)) =
      q.filter fun e => decide (e.module ∉ l ++ [k]) := by
  rw [List.filter_filter]
  refine List.filter_congr fun e _ => ?_
  rw [← Bool.decide_and]
  refine decide_eq_decide.2 ?_
  rw [mem_append_singleton, not_or, and_comm]

theorem recalling_append (s : State) (l : List ModuleId) {live : SlotLive} (hl : live = s.slotLive k) :
    ((s.recalling l).withdraw k).setSlotLive k { live with step := some .waiting } = s.recalling (l ++ [k]) := by
  subst hl
  have slots : (perModule fun j => if j ∈ l then { s.slotLive j with step := some .waiting } else s.slotLive j).set k
      { s.slotLive k with step := some .waiting } =
      perModule fun j => if j ∈ l ++ [k] then { s.slotLive j with step := some .waiting } else s.slotLive j :=
    PerModule.ext_get fun j => by
      rw [PerModule.get_set, perModule_get, perModule_get]
      by_cases same : j = k
      · simp only [same, if_true, mem_append_singleton, or_true]
      · simp only [same, if_false, mem_append_singleton, or_false]
  rw [State.recalling, State.recalling, ← slots, ← filter_not_mem_append]
  rfl

theorem recallAll_eq (s : State) : ModuleId.all.foldl State.withdrawRelease s = s.recalling (ModuleId.all.filter s.recalls) := by
  have step (l : List ModuleId) (k : ModuleId) (hk : k ∉ l) :
      (s.recalling l).withdrawRelease k = if s.recalls k then s.recalling (l ++ [k]) else s.recalling l := by
    rw [State.withdrawRelease, isQueuedWith_recalling hk, isQueuedWith_recalling hk]
    exact ite_congr rfl (fun _ => recalling_append s l ((slotLive_recalling k).trans (if_neg hk))) fun _ => rfl
  have collected := foldl_collects_nodup step ModuleId.all_nodup
  rwa [recalling_nil] at collected

end Sys2Proof.Machine
end

section
/-! PROOFS. The level's entry into CRITICAL, and what each signal does to the slots (R72 to R78, R86, R89 to R91, R93, R96, R128). -/

namespace Sys2Proof.Machine

variable {s : State} {k : ModuleId}

/-! ### The level's entry into CRITICAL (R91, R128) -/

/-- The record of an erase that the entry into CRITICAL closes (R91, R101). -/
def State.brokenRec (s : State) (k : ModuleId) : SlotRec :=
  { s.slotRec k with
    state := .free, cause := some .critical, last := some .refused, busyMs := (s.slotLive k).busyMs (s.now / 1000) }

/-- The slot of an erase that the entry into CRITICAL closes (R101). -/
def State.brokenLive (s : State) (k : ModuleId) : SlotLive :=
  { s.slotLive k with state := .free, step := none, issueMs := none, timerFrom := none, keptReturn := false }

/-- The part once the programs of one list are released and the erases of another closed by the entry into CRITICAL (R91, R128). -/
def State.breaking (s : State) (programs erases : List ModuleId) : State :=
  { s with
    ret := { s.ret with slots := perModule fun k => if k ∈ erases then s.brokenRec k else s.slotRec k }
    slots := perModule fun k =>
      if k ∈ erases then s.brokenLive k
      else if k ∈ programs then { s.slotLive k with step := some .releaseQueued }
      else s.slotLive k
    arb :=
      { s.arb with
        queue := (requested s.arb.queue programs .release (some .critical)).filter fun e => decide (e.module ∉ erases) }
    releaseQueue := s.releaseQueue.filter fun k => decide (k ∉ erases)
    relay := { s.relay with readyFail := perModule fun k => if k ∈ erases then true else s.relay.readyFail.get k }
    counters :=
      { s.counters with
        holdBreaks := grown s.counters.holdBreaks (programs.length + erases.length)
        refusedErases := grown s.counters.refusedErases erases.length }
    causes := if programs = [] ∧ erases = [] then s.causes else s.causes ||| 32 }

theorem breaking_nil (s : State) : s.breaking [] [] = s := by
  have records : (perModule fun k => if k ∈ ([] : List ModuleId) then s.brokenRec k else s.slotRec k) = s.ret.slots :=
    PerModule.ext_get fun k => by simp only [perModule_get, List.not_mem_nil, if_false, State.slotRec]
  have slots : (perModule fun k =>
      if k ∈ ([] : List ModuleId) then s.brokenLive k
      else if k ∈ ([] : List ModuleId) then { s.slotLive k with step := some .releaseQueued }
      else s.slotLive k) = s.slots := by
    simp only [List.not_mem_nil, if_false, perModule_slots]
  have fails : (perModule fun k => if k ∈ ([] : List ModuleId) then true else s.relay.readyFail.get k) = s.relay.readyFail :=
    PerModule.ext_get fun k => by simp only [perModule_get, List.not_mem_nil, if_false]
  have queue : (s.arb.queue.filter fun e => decide (e.module ∉ ([] : List ModuleId))) = s.arb.queue :=
    List.filter_eq_self.2 fun e _ => decide_eq_true List.not_mem_nil
  have releases : (s.releaseQueue.filter fun k => decide (k ∉ ([] : List ModuleId))) = s.releaseQueue :=
    List.filter_eq_self.2 fun e _ => decide_eq_true List.not_mem_nil
  rw [State.breaking, records, slots, fails, releases, requested, List.foldl_nil, queue]
  rfl

section
variable {programs erases : List ModuleId}

theorem slotRec_breaking (k : ModuleId) :
    (s.breaking programs erases).slotRec k = if k ∈ erases then s.brokenRec k else s.slotRec k :=
  perModule_get (fun k => if k ∈ erases then s.brokenRec k else s.slotRec k) k

theorem slotLive_breaking (k : ModuleId) :
    (s.breaking programs erases).slotLive k =
      if k ∈ erases then s.brokenLive k
      else if k ∈ programs then { s.slotLive k with step := some .releaseQueued }
      else s.slotLive k :=
  perModule_get (fun k =>
    if k ∈ erases then s.brokenLive k
    else if k ∈ programs then ({ s.slotLive k with step := some .releaseQueued } : SlotLive)
    else s.slotLive k) k

theorem releasable_breaking_erased (h : k ∈ erases) : (s.breaking programs erases).releasable k = false := by
  rw [State.releasable, slotLive_breaking, if_pos h]
  rfl

theorem releasable_breaking (h : k ∉ erases) (hr : s.releasable k = true) : (s.breaking programs erases).releasable k = true := by
  rw [State.releasable, slotLive_breaking, if_neg h]
  split
  · have held : (s.slotLive k).state = .held :=
      (Bool.or_eq_true_iff.1 hr).elim (fun h => (heldIn_iff.1 h).1) fun h => (heldIn_iff.1 h).1
    exact Bool.or_eq_true_iff.2 (.inr (heldIn_iff.2 ⟨held, rfl⟩))
  · exact hr

end

theorem releasable_iff :
    s.releasable k = true ↔
      (s.slotLive k).state = .held ∧ ((s.slotLive k).step = some .waiting ∨ (s.slotLive k).step = some .releaseQueued) := by
  rw [State.releasable, Bool.or_eq_true_iff, heldIn_iff, heldIn_iff, and_or_left]

theorem criticalSlot_other (h : s.releasable k = false) : s.criticalSlot k = s :=
  if_neg (mt releasable_iff.2 (Bool.eq_false_iff.1 h))

theorem criticalSlot_program (h : s.releasable k = true) (program : (s.slotRec k).isErase = false) :
    s.criticalSlot k = ((s.releaseSlot k .critical).count .holdBreaks).raise .holdBreak := by
  refine (if_pos (releasable_iff.1 h)).trans ?_
  rw [if_neg (Bool.eq_false_iff.1 program)]

theorem criticalSlot_erase (h : s.releasable k = true) (erase : (s.slotRec k).isErase = true) :
    s.criticalSlot k =
      { s with
        ret := { s.ret with slots := s.ret.slots.set k (s.brokenRec k) }
        slots := s.slots.set k (s.brokenLive k)
        arb := { s.arb with queue := s.arb.queue.filter fun e => decide (e.module ≠ k) }
        releaseQueue := s.releaseQueue.filter fun j => decide (j ≠ k)
        relay := { s.relay with readyFail := s.relay.readyFail.set k true }
        counters :=
          { s.counters with
            holdBreaks := grow16 s.counters.holdBreaks, refusedErases := grow16 s.counters.refusedErases }
        causes := s.causes ||| 32 } := by
  have closing : ((s.withdraw k).setSlotRec k { s.slotRec k with cause := some .critical }).slotRec k =
      { s.slotRec k with cause := some .critical } := PerModule.get_set_self _ _ _
  have closed : ((s.withdraw k).setSlotRec k { s.slotRec k with cause := some .critical }).slotClosed k .refused =
      { s with
        ret := { s.ret with slots := s.ret.slots.set k (s.brokenRec k) }
        slots := s.slots.set k (s.brokenLive k)
        arb := { s.arb with queue := s.arb.queue.filter fun e => decide (e.module ≠ k) }
        releaseQueue := s.releaseQueue.filter fun j => decide (j ≠ k) } := by
    rw [State.slotClosed, closing,
      ← PerModule.set_set s.ret.slots k { s.slotRec k with cause := some .critical } (s.brokenRec k)]
    rfl
  refine (if_pos (releasable_iff.1 h)).trans ?_
  rw [if_pos erase, closeSlot_silent _ _ (.inr rfl), closed]
  rfl

/-- One more program released (R91). -/
theorem criticalSlot_breaking_program {programs erases : List ModuleId} (h : s.releasable k = true)
    (program : (s.slotRec k).isErase = false) (other : k ∉ erases) :
    (s.breaking programs erases).criticalSlot k = s.breaking (programs ++ [k]) erases := by
  have record : (s.breaking programs erases).slotRec k = s.slotRec k := (slotRec_breaking k).trans (if_neg other)
  have live : ({ (s.breaking programs erases).slotLive k with step := some .releaseQueued } : SlotLive) =
      { s.slotLive k with step := some .releaseQueued } := by
    rw [slotLive_breaking, if_neg other]
    split <;> rfl
  have slots : (perModule fun j =>
        if j ∈ erases then s.brokenLive j
        else if j ∈ programs then { s.slotLive j with step := some .releaseQueued }
        else s.slotLive j).set k { s.slotLive k with step := some .releaseQueued } =
      perModule fun j =>
        if j ∈ erases then s.brokenLive j
        else if j ∈ programs ++ [k] then { s.slotLive j with step := some .releaseQueued }
        else s.slotLive j :=
    PerModule.ext_get fun j => by
      rw [PerModule.get_set, perModule_get, perModule_get]
      by_cases same : j = k
      · simp only [same, other, if_true, if_false, mem_append_singleton, or_true]
      · simp only [same, if_false, mem_append_singleton, or_false]
  have causes : (if programs = [] ∧ erases = [] then s.causes else s.causes ||| 32) ||| 32 =
      if programs ++ [k] = [] ∧ erases = [] then s.causes else s.causes ||| 32 := by
    rw [raise_again, if_neg fun none => append_singleton_ne_nil programs k none.1]
  have breaks : grow16 (grown s.counters.holdBreaks (programs.length + erases.length)) =
      grown s.counters.holdBreaks ((programs ++ [k]).length + erases.length) := by
    rw [grown_succ, List.length_append, List.length_singleton, Nat.add_right_comm]
  rw [criticalSlot_program (releasable_breaking other h) (record ▸ program),
    releaseSlot_releasable (releasable_breaking other h), live, State.breaking, State.breaking, ← causes, ← breaks, ← slots,
    requested_append, ← queueRequest_filter (by exact other)]
  rfl

/-- One more erase closed (R91, R101). -/
theorem criticalSlot_breaking_erase {programs erases more : List ModuleId} (h : s.releasable k = true)
    (erase : (s.slotRec k).isErase = true) (other : k ∉ erases) (new : k ∉ programs)
    (members : ∀ j, j ∈ more ↔ j ∈ erases ∨ j = k) (length : more.length = erases.length + 1) :
    (s.breaking programs erases).criticalSlot k = s.breaking programs more := by
  have record : (s.breaking programs erases).slotRec k = s.slotRec k := (slotRec_breaking k).trans (if_neg other)
  have live : (s.breaking programs erases).slotLive k = s.slotLive k :=
    (slotLive_breaking k).trans ((if_neg other).trans (if_neg new))
  have put {α : Type} (f : ModuleId → α) (g : ModuleId → α) :
      (perModule fun j => if j ∈ erases then f j else g j).set k (f k) = perModule fun j => if j ∈ more then f j else g j :=
    PerModule.ext_get fun j => by
      rw [PerModule.get_set, perModule_get, perModule_get]
      by_cases same : j = k
      · simp only [same, members, if_true, or_true]
      · simp only [same, members, if_false, or_false]
  have left {α : Type} (f : α → ModuleId) (q : List α) :
      ((q.filter fun e => decide (f e ∉ erases)).filter fun e => decide (f e ≠ k)) = q.filter fun e => decide (f e ∉ more) := by
    rw [List.filter_filter]
    refine List.filter_congr fun e _ => ?_
    rw [← Bool.decide_and]
    refine decide_eq_decide.2 ?_
    rw [members, not_or, and_comm]
  have causes : (if programs = [] ∧ erases = [] then s.causes else s.causes ||| 32) ||| 32 =
      if programs = [] ∧ more = [] then s.causes else s.causes ||| 32 := by
    rw [raise_again, if_neg fun none => List.not_mem_nil (none.2 ▸ (members k).2 (.inr rfl))]
  have records : (s.breaking programs erases).brokenRec k = s.brokenRec k := by
    rw [State.brokenRec, record, live]
    rfl
  have slots : (s.breaking programs erases).brokenLive k = s.brokenLive k := by
    rw [State.brokenLive, live]
    rfl
  have releases : ((s.releaseQueue.filter fun j => decide (j ∉ erases)).filter fun j => decide (j ≠ k)) =
      s.releaseQueue.filter fun j => decide (j ∉ more) := left id s.releaseQueue
  rw [criticalSlot_erase (releasable_breaking other h) (record ▸ erase), records, slots, State.breaking, State.breaking, ← causes,
    length, ← Nat.add_assoc, ← grown_succ, ← grown_succ, ← put s.brokenRec s.slotRec,
    ← put (fun _ => true) s.relay.readyFail.get, ← put s.brokenLive, ← releases, ← left Insert.module]

theorem criticalEntry_eq (s : State) :
    s.criticalEntry =
      s.breaking (s.releaseQueue.filter fun k => s.releasable k && !(s.slotRec k).isErase)
        (ModuleId.all.filter fun k => decide (k ∈ s.releaseQueue) && s.releasable k && (s.slotRec k).isErase) := by
  have step (l : List ModuleId) (k : ModuleId) (hl : ∀ j ∈ l, s.releasable j = true) :
      (s.breaking (l.filter fun k => !(s.slotRec k).isErase)
          (ModuleId.all.filter fun k => decide (k ∈ l) && (s.slotRec k).isErase)).criticalSlot k =
        if s.releasable k then
          s.breaking ((l ++ [k]).filter fun k => !(s.slotRec k).isErase)
            (ModuleId.all.filter fun j => decide (j ∈ l ++ [k]) && (s.slotRec j).isErase)
        else
          s.breaking (l.filter fun k => !(s.slotRec k).isErase)
            (ModuleId.all.filter fun k => decide (k ∈ l) && (s.slotRec k).isErase) := by
    have erased (j : ModuleId) (l : List ModuleId) :
        j ∈ ModuleId.all.filter (fun k => decide (k ∈ l) && (s.slotRec k).isErase) ↔ j ∈ l ∧ (s.slotRec j).isErase = true := by
      rw [List.mem_filter, Bool.and_eq_true_iff, decide_eq_true_eq]
      exact and_iff_right (by cases j <;> decide)
    cases held : s.releasable k with
    | false =>
      have out : k ∉ l := fun h => absurd ((hl k h).symm.trans held) (by decide)
      rw [if_neg Bool.false_ne_true]
      have closed : ¬(k ∈ ModuleId.all.filter fun k => decide (k ∈ l) && (s.slotRec k).isErase) := fun h => out ((erased k l).1 h).1
      have live := (slotLive_breaking (s := s) (programs := l.filter fun k => !(s.slotRec k).isErase) k).trans
        ((if_neg closed).trans (if_neg fun h => out (List.mem_of_mem_filter h)))
      exact criticalSlot_other (by rw [State.releasable, live]; exact held)
    | true =>
      rw [if_pos rfl]
      cases erase : (s.slotRec k).isErase with
      | false =>
        have closed : ¬(k ∈ ModuleId.all.filter fun k => decide (k ∈ l) && (s.slotRec k).isErase) := fun h =>
          absurd (((erased k l).1 h).2.symm.trans erase) (by decide)
        have programs : (l ++ [k]).filter (fun k => !(s.slotRec k).isErase) = (l.filter fun k => !(s.slotRec k).isErase) ++ [k] := by
          rw [List.filter_append]
          exact congrArg _ (List.filter_eq_self.2 fun j hj => by rw [List.mem_singleton.1 hj, erase]; rfl)
        have erases : (ModuleId.all.filter fun j => decide (j ∈ l ++ [k]) && (s.slotRec j).isErase) =
            ModuleId.all.filter fun j => decide (j ∈ l) && (s.slotRec j).isErase :=
          List.filter_congr fun j _ => by
            by_cases same : j = k
            · rw [same, erase, Bool.and_false, Bool.and_false]
            · rw [decide_eq_decide.2 (mem_append_singleton.trans (or_iff_left same))]
        rw [programs, erases]
        exact criticalSlot_breaking_program held erase closed
      | true =>
        have programs : (l ++ [k]).filter (fun k => !(s.slotRec k).isErase) = l.filter fun k => !(s.slotRec k).isErase := by
          rw [List.filter_append]
          refine (congrArg _ (List.filter_eq_nil_iff.2 fun j hj h => ?_)).trans (List.append_nil _)
          rw [List.mem_singleton.1 hj, erase] at h
          exact Bool.false_ne_true h
        rw [programs]
        by_cases again : k ∈ l
        · have closed := (erased k l).2 ⟨again, erase⟩
          simp only [mem_append_of_mem again]
          exact criticalSlot_other (releasable_breaking_erased closed)
        · have program : k ∉ l.filter fun k => !(s.slotRec k).isErase := fun h => again (List.mem_of_mem_filter h)
          refine criticalSlot_breaking_erase held erase (fun h => again ((erased k l).1 h).1) program (fun j => ?_) ?_
          · rw [erased, erased, mem_append_singleton, or_and_right]
            exact or_congr_right (and_iff_left_of_imp fun same => same ▸ erase)
          · refine length_filter_all_new (k := k) ?_ ?_ fun j hj => ?_
            · rw [decide_eq_false again, Bool.false_and]
            · rw [decide_eq_true (mem_append_singleton.2 (.inr rfl)), erase, Bool.and_true]
            · rw [decide_eq_decide.2 (mem_append_singleton.trans (or_iff_left hj))]
  have collected := foldl_collects (S := fun l => s.breaking (l.filter fun k => !(s.slotRec k).isErase)
    (ModuleId.all.filter fun k => decide (k ∈ l) && (s.slotRec k).isErase)) (op := State.criticalSlot) step s.releaseQueue
  have none : (ModuleId.all.filter fun k => decide (k ∈ ([] : List ModuleId)) && (s.slotRec k).isErase) = [] :=
    List.filter_eq_nil_iff.2 fun k _ h => List.not_mem_nil (of_decide_eq_true (Bool.and_eq_true_iff.1 h).1)
  have programs : ((s.releaseQueue.filter s.releasable).filter fun k => !(s.slotRec k).isErase) =
      s.releaseQueue.filter fun k => s.releasable k && !(s.slotRec k).isErase := by
    rw [List.filter_filter]
    exact List.filter_congr fun k _ => Bool.and_comm _ _
  have erases : (ModuleId.all.filter fun k => decide (k ∈ s.releaseQueue.filter s.releasable) && (s.slotRec k).isErase) =
      ModuleId.all.filter fun k => decide (k ∈ s.releaseQueue) && s.releasable k && (s.slotRec k).isErase :=
    List.filter_congr fun k _ => by
      rw [decide_eq_decide.2 List.mem_filter, Bool.decide_and, Bool.decide_eq_true]
  simp only [List.filter_nil, none, breaking_nil, programs, erases] at collected
  exact collected

/-! ### A departure from CALM (R72 to R75, R89) -/

/-- An erase that gets a SUSPEND request has no RELEASE queued. -/
theorem not_recalls_of_suspends (h : s.suspends k = true) : s.recalls k = false := by
  refine Bool.eq_false_iff.2 fun back => ?_
  obtain ⟨queued, -⟩ : (s.slotLive k).heldIn .releaseQueued = true ∧ True := by
    rcases Bool.or_eq_true_iff.1 back with h | h <;> exact ⟨(Bool.and_eq_true_iff.1 h).1, trivial⟩
  obtain ⟨held, step⟩ := heldIn_iff.1 queued
  rw [State.suspends, SlotLive.heldIn, held, step] at h
  exact absurd (Bool.and_eq_true_iff.1 h).2 (by decide)

/-- Nor has it one once its SUSPEND is requested (R93). -/
theorem not_recalls_suspended {l : List ModuleId} (hk : k ∈ l) :
    (s.inserting .suspend none s.suspendedLive l).recalls k = false := by
  have cause (c : ReleaseCause) : (s.inserting .suspend none s.suspendedLive l).isQueuedWith k c = false := by
    have withdrawn : (s.inserting .suspend none s.suspendedLive l).queuedCause k = none :=
      (queuedCause_inserting_mem hk).trans (if_neg (by decide))
    rw [State.isQueuedWith, withdrawn]
    exact Bool.and_false _
  rw [State.recalls, cause, cause, Bool.or_false]

theorem recalls_suspended (s : State) :
    (s.inserting .suspend none s.suspendedLive (ModuleId.all.filter s.suspends)).recalls = s.recalls := by
  funext k
  by_cases hk : k ∈ ModuleId.all.filter s.suspends
  · rw [not_recalls_suspended hk, not_recalls_of_suspends (List.mem_filter.1 hk).2]
  · have cause (c : ReleaseCause) :
        (s.inserting .suspend none s.suspendedLive (ModuleId.all.filter s.suspends)).isQueuedWith k c = s.isQueuedWith k c := by
      rw [State.isQueuedWith, slotLive_inserting, if_neg hk, queuedCause_inserting hk]
      rfl
    rw [State.recalls, cause, cause]
    rfl

/-- A departure exposes, suspends and recalls what it found, and then judges the holds (R73 to R75, R89). -/
theorem departureSignals_eq {n : Nat} (hn : s.mon.openRec = some n) :
    s.departureSignals =
      State.judgeHolds
        { s.exposing n (ModuleId.all.filter s.exposes) with
          arb :=
            { s.arb with
              queue := (requested s.arb.queue (ModuleId.all.filter s.suspends) .suspend none).filter fun e =>
                decide (e.module ∉ ModuleId.all.filter s.recalls) }
          slots := perModule fun k =>
            if k ∈ ModuleId.all.filter s.suspends then s.suspendedLive k
            else if k ∈ ModuleId.all.filter s.recalls then { s.slotLive k with step := some .waiting }
            else s.slotLive k } := by
  have suspends : (s.exposing n (ModuleId.all.filter s.exposes)).suspends = s.suspends := by
    funext k
    rw [State.suspends, isErase_exposing]
    rfl
  have recalls : ((s.exposing n (ModuleId.all.filter s.exposes)).inserting .suspend none s.suspendedLive
      (ModuleId.all.filter s.suspends)).recalls = s.recalls := by
    have same := recalls_suspended s
    funext k
    exact congrFun same k
  have slots : (perModule fun k =>
        if k ∈ ModuleId.all.filter s.recalls then
          { (s.inserting .suspend none s.suspendedLive (ModuleId.all.filter s.suspends)).slotLive k with step := some .waiting }
        else (s.inserting .suspend none s.suspendedLive (ModuleId.all.filter s.suspends)).slotLive k) =
      perModule fun k =>
        if k ∈ ModuleId.all.filter s.suspends then s.suspendedLive k
        else if k ∈ ModuleId.all.filter s.recalls then { s.slotLive k with step := some .waiting }
        else s.slotLive k :=
    PerModule.ext_get fun k => by
      rw [perModule_get, perModule_get, slotLive_inserting]
      by_cases hk : k ∈ ModuleId.all.filter s.suspends
      · have out : k ∉ ModuleId.all.filter s.recalls := fun h =>
          absurd ((not_recalls_of_suspends (List.mem_filter.1 hk).2).symm.trans (List.mem_filter.1 h).2) (by decide)
        simp only [if_pos hk, if_neg out]
      · simp only [if_neg hk]
  have live : (s.exposing n (ModuleId.all.filter s.exposes)).suspendedLive = s.suspendedLive := rfl
  rw [State.departureSignals, exposeAll_eq hn, suspendAll_eq, suspends, live, recallAll_eq, recalls, ← slots]
  rfl

/-! ### The signals together -/

/-- Settles O42: each signal by what its fold over the modules or the release queue comes to. -/
theorem monitorSignalsReachTheSlots : Obligations.MonitorSignalsReachTheSlots := by
  intro s ms isIn isErase stepped parked
  refine ⟨fun n hn => ?_, ?_, ?_, ?_, ?_, ?_, departureWakes_eq s⟩
  · intro marked counted erases back
    have recalled : ModuleId.all.filter s.recalls = back :=
      List.filter_congr fun k _ => (Bool.and_or_distrib_left _ _ _).symm
    rw [departureSignals_eq hn, recalled]
    rfl
  · intro late
    exact judgeHolds_eq s
  · intro waiting
    rw [calmSignals_eq]
    exact resumeAll_releasing s .settled fun k hk => releasable_of_isWaiting (List.mem_filter.1 hk).2
  · intro woken
    rw [blindSignals_eq]
    exact resumeAll_releasing s .blind fun k hk =>
      (Bool.or_eq_true_iff.1 (List.mem_filter.1 hk).2).elim releasable_of_isWaiting releasable_of_isQueuedWith
  · exact resumeAll_eq s
  · intro broken programs erases
    exact criticalEntry_eq s

end Sys2Proof.Machine
end

section
/-! PROOFS. The commands of the service block that store settings, the stamp and the charge (R114, R119 to R122, R168 to R171, R174,
R180 to R186, R192, R193). -/

namespace Sys2Proof.Machine

variable {s : State}

/-! ### A command taken from its frame (R165, R167) -/

/-- The frame that carries the command is executed by it, and its result waits for the answer (R167). -/
theorem runCommand_carries {bytes : List Byte} {code : CmdCode} (h : s.Carries bytes code)
    (f : List Byte → State → State × CmdDone) :
    s.runCommand code f = (f bytes s).1.setProcessing (some (.frame bytes (some (f bytes s).2))) := by
  obtain ⟨waits, passes⟩ := h
  have frame : s.waitingFrame = some bytes := by rw [State.waitingFrame, waits]
  rw [State.runCommand, frame]
  dsimp only
  rw [passes]
  exact if_pos rfl

/-- A command of an accepted frame on a part that serves. -/
theorem serving_runCommand (hp : s.phase = .running) {bytes : List Byte} {code : CmdCode} (h : s.Carries bytes code)
    (f : List Byte → State → State × CmdDone) :
    (s.serving fun s => s.runCommand code f) =
      (f bytes s.begin).1.setProcessing (some (.frame bytes (some (f bytes s.begin).2))) :=
  (State.serving_running hp _).trans (runCommand_carries (s := s.begin) h f)

/-! ### Settings stored beside the ports and the service handler (R182, R185) -/

/-- The part with other ports and another service handler. -/
def State.beside (s : State) (ports : Ports) (svc : Service) : State := { s with ports := ports, svc := svc }

theorem judgeHolds_beside (s : State) (ports : Ports) (svc : Service) :
    (s.beside ports svc).judgeHolds = s.judgeHolds.beside ports svc := by
  rw [judgeHolds_eq, judgeHolds_eq]
  rfl

theorem criticalEntry_beside (s : State) (ports : Ports) (svc : Service) :
    (s.beside ports svc).criticalEntry = s.criticalEntry.beside ports svc := by
  rw [criticalEntry_eq, criticalEntry_eq]
  rfl

theorem levelHanded_beside (s : State) (ports : Ports) (svc : Service) (old : Level) :
    (s.beside ports svc).levelHanded old = (s.levelHanded old).beside ports svc := by
  unfold State.levelHanded
  have entry := criticalEntry_beside { s with causes := s.causes ||| 8 } ports svc
  rw [apply_ite (State.beside · ports svc), apply_ite (State.beside · ports svc), ← entry]
  rfl

theorem settingsStored_beside (s : State) (ports : Ports) (svc : Service) (new : Settings) :
    (s.beside ports svc).settingsStored new = (s.settingsStored new).beside ports svc := by
  unfold State.settingsStored
  by_cases limit : s.ret.settings.holdLimit = new.holdLimit
  · have limit' : (s.beside ports svc).ret.settings.holdLimit = new.holdLimit := limit
    simp only [if_pos limit, if_pos limit', ← levelHanded_beside]
    rfl
  · have limit' : ¬(s.beside ports svc).ret.settings.holdLimit = new.holdLimit := limit
    simp only [if_neg limit, if_neg limit', ← levelHanded_beside, judgeHolds_eq]
    rfl

/-- Settings that only their readers follow: neither the window nor the holds, the charge or a condition (R185). -/
theorem settingsStored_plain {new : Settings} (window : s.ret.settings.window = new.window)
    (holdLimit : s.ret.settings.holdLimit = new.holdLimit) (capacity : s.ret.settings.capacity = new.capacity)
    (reserve : s.ret.settings.reserve = new.reserve) (critMv : s.ret.settings.critMv = new.critMv) :
    s.settingsStored new = { s with ret := { s.ret with settings := new } } := by
  simp only [State.settingsStored, window, holdLimit, capacity, reserve, critMv, if_true, and_self]
  exact if_pos rfl

/-- A change of WINDOW refills the window with its average alone (R55). -/
theorem settingsStored_window {new : Settings} (window : s.ret.settings.window ≠ new.window)
    (holdLimit : s.ret.settings.holdLimit = new.holdLimit) (capacity : s.ret.settings.capacity = new.capacity)
    (reserve : s.ret.settings.reserve = new.reserve) (critMv : s.ret.settings.critMv = new.critMv) :
    s.settingsStored new =
      { s with
        ret := { s.ret with settings := new }
        fe :=
          { s.fe with
            window := List.replicate new.window.toNat (s.fe.sum / s.fe.window.length)
            sum := s.fe.sum / s.fe.window.length * new.window.toNat } } := by
  simp only [State.settingsStored, window, holdLimit, capacity, reserve, critMv, if_true, if_false, and_self]
  exact if_pos rfl

/-- A level handed on reaches the slots and what releases and closes write (R91, R120). -/
theorem levelHanded_reaches (s : State) (old : Level) :
    ∃ records slots queue releases fails counters causes,
      s.levelHanded old =
        { s with
          ret := { s.ret with slots := records }
          slots := slots
          arb := { s.arb with queue := queue }
          releaseQueue := releases
          relay := { s.relay with readyFail := fails }
          counters := counters
          causes := causes } := by
  rw [← State.handLevel_eq]
  by_cases same : s.gauge.level = old
  · rw [State.handLevel, if_pos same]
    exact ⟨_, _, _, _, _, _, _, rfl⟩
  · rw [State.handLevel, if_neg same]
    by_cases critical : s.gauge.level = .critical
    · rw [if_pos critical, criticalEntry_eq]
      exact ⟨_, _, _, _, _, _, _, rfl⟩
    · rw [if_neg critical]
      exact ⟨s.ret.slots, s.slots, s.arb.queue, s.releaseQueue, s.relay.readyFail, s.counters, _, rfl⟩

/-- What storing settings reaches besides the table (R185). -/
theorem settingsStored_reaches (s : State) (new : Settings) :
    ∃ records copy fe slots queue releases fails counters causes chargeLow voltageLow,
      s.settingsStored new =
        { s with
          ret := { s.ret with settings := new, slots := records, chargeCopy := copy }
          fe := fe
          slots := slots
          arb := { s.arb with queue := queue }
          releaseQueue := releases
          relay := { s.relay with readyFail := fails }
          counters := counters
          causes := causes
          gauge :=
            { s.gauge with
              q := if s.ret.settings.capacity = new.capacity then s.gauge.q else min s.gauge.q (new.capacity.toNat * 3600000)
              chargeLow := chargeLow
              voltageLow := voltageLow } } := by
  unfold State.settingsStored
  by_cases limit : s.ret.settings.holdLimit = new.holdLimit
  · simp only [if_pos limit]
    obtain ⟨records, slots, queue, releases, fails, counters, causes, h⟩ := levelHanded_reaches _ _
    exact ⟨_, _, _, _, _, _, _, _, _, _, _, h⟩
  · simp only [if_neg limit, judgeHolds_eq]
    obtain ⟨records, slots, queue, releases, fails, counters, causes, h⟩ := levelHanded_reaches _ _
    exact ⟨_, _, _, _, _, _, _, _, _, _, _, h⟩

/-- What no setting changes (R185). -/
theorem settingsStored_keeps (s : State) (new : Settings) :
    (s.settingsStored new).ret.settings = new ∧ (s.settingsStored new).clock = s.clock
      ∧ (s.settingsStored new).ret.writeSeq = s.ret.writeSeq ∧ (s.settingsStored new).ret.shocks = s.ret.shocks
      ∧ (s.settingsStored new).ret.epoch = s.ret.epoch ∧ (s.settingsStored new).mon = s.mon
      ∧ (s.settingsStored new).ret.suspects = s.ret.suspects := by
  obtain ⟨_, _, _, _, _, _, _, _, _, _, _, h⟩ := settingsStored_reaches s new
  rw [h]
  exact ⟨rfl, rfl, rfl, rfl, rfl, rfl, rfl⟩

/-- With no slot held the level is handed on to the causes alone (R91, R120). -/
theorem levelHanded_free (h : s.releaseQueue = []) (old : Level) :
    (s.levelHanded old).ret.slots = s.ret.slots ∧ (s.levelHanded old).slots = s.slots
      ∧ (s.levelHanded old).counters = s.counters := by
  have entry : ({ s with causes := s.causes ||| 8 } : State).criticalEntry = { s with causes := s.causes ||| 8 } := by
    rw [State.criticalEntry, h]
    rfl
  rw [← State.handLevel_eq]
  by_cases same : s.gauge.level = old
  · rw [State.handLevel, if_pos same]
    exact ⟨rfl, rfl, rfl⟩
  · have handed : s.handLevel old = { s with causes := s.causes ||| 8 } := by
      refine (if_neg same).trans ?_
      by_cases critical : s.gauge.level = .critical
      · exact (if_pos critical).trans entry
      · exact if_neg critical
    rw [handed]
    exact ⟨rfl, rfl, rfl⟩

/-- With no slot held no setting reaches the slots or the counters (R91, R186). -/
theorem settingsStored_free (h : s.releaseQueue = []) (new : Settings) :
    (s.settingsStored new).ret.slots = s.ret.slots ∧ (s.settingsStored new).slots = s.slots
      ∧ (s.settingsStored new).counters = s.counters := by
  have judge (u : State) (hu : u.releaseQueue = []) : u.judgeHolds = u := by
    rw [State.judgeHolds, hu]
    rfl
  unfold State.settingsStored
  by_cases limit : s.ret.settings.holdLimit = new.holdLimit
  · simp only [if_pos limit]
    exact levelHanded_free (by exact h) _
  · simp only [if_neg limit]
    rw [judge _ (by exact h)]
    exact levelHanded_free (by exact h) _

/-- A command that stores settings, its result waiting for the answer. -/
theorem serving_storeSettings (hp : s.phase = .running) {bytes : List Byte} {code : CmdCode} (h : s.Carries bytes code)
    {f : List Byte → State → State × CmdDone} {new : Settings} {done : CmdDone}
    (hf : f bytes s.begin = (s.begin.storeSettings new, done)) :
    (s.serving fun s => s.runCommand code f) =
      { s.settingsStored new with
        ports := ⟨[], none, []⟩
        svc := { s.svc with processing := some (.frame bytes (some done)) } } := by
  have stored : s.begin.settingsStored new = (s.settingsStored new).beside ⟨[], none, []⟩ s.svc :=
    settingsStored_beside s ⟨[], none, []⟩ s.svc new
  rw [serving_runCommand hp h, hf, State.storeSettings_eq, stored]
  rfl

/-! ### The settings table (R181 to R184) -/

theorem Settings.get_set (t : Settings) (i j : SettingId) (v : Int) : (t.set i v).get j = if i = j then v else t.get j := by
  cases i <;> cases j <;> rfl

/-- The table stored by SET SETTING (R184). -/
theorem Settings.store_eq (t : Settings) (i : SettingId) (v : Int) :
    t.store i v =
      if i = .fallLevel then { t.set i v with fallExit := max t.fallExit (v + 1) }
      else if i = .restLow then { t.set i v with restHigh := max t.restHigh (v + 1) }
      else t.set i v := by
  cases i <;> rfl

/-- A setting with effects of its own is stored by its own id alone (R184, R185). -/
theorem Settings.store_get_other (t : Settings) (v : Int) {i j : SettingId}
    (hj : j ∈ [SettingId.window, .holdLimit, .capacity, .reserve, .critMv]) (hij : i ≠ j) : (t.store i v).get j = t.get j := by
  have plain : (t.set i v).get j = t.get j := (Settings.get_set t i j v).trans (if_neg hij)
  rw [Settings.store_eq]
  have dependent : j ≠ .fallExit ∧ j ≠ .restHigh := ⟨fun h => absurd (h ▸ hj) (by decide), fun h => absurd (h ▸ hj) (by decide)⟩
  split
  · rw [← plain]
    cases j <;> first | rfl | exact absurd rfl dependent.1
  · split
    · rw [← plain]
      cases j <;> first | rfl | exact absurd rfl dependent.2
    · exact plain

/-- The value SET SETTING stores (R183, R184). -/
theorem SettingId.bring_cases (t : Settings) (i : SettingId) (v : Int) :
    i.bring t v =
      if i = .window then (if v ≤ 8 then 8 else if v ≤ 16 then 16 else 32)
      else if v < (i.range t).1 then (i.range t).1 else if (i.range t).2 < v then (i.range t).2 else v := by
  cases i <;> rfl

/-- Settles O52: the table row by row, and then the value stored with its effects. -/
theorem setSettingStoresTheValue : Obligations.SetSettingStoresTheValue := by
  refine ⟨fun t => ?_, fun s bytes i hp carries named => ?_⟩
  · intro rows
    have row_says : ∀ r ∈ rows, SettingId.ofId r.1 = some r.2.1 ∧ t.get r.2.1 = r.2.2.1
        ∧ r.2.1.range t = (r.2.2.2.1, r.2.2.2.2.1) ∧ Settings.defaults.get r.2.1 = r.2.2.2.2.2 := by
      simp only [rows, List.forall_mem_cons, List.not_mem_nil, false_implies, implies_true, and_true]
      and_intros <;> rfl
    have rows_all : rows.map (fun r => r.2.1) = SettingId.all := rfl
    have given {id : Nat} {i : SettingId} {v lo hi d : Int} (row : (id, i, v, lo, hi, d) ∈ rows) :
        SettingId.ofId id = some i ∧ t.get i = v ∧ i.range t = (lo, hi) ∧ Settings.defaults.get i = d := row_says _ row
    refine ⟨fun id i v lo hi d row => given row, Settings.get_set t, fun n hn => ?_, ?_⟩
    · rcases hn with rfl | hn
      · rfl
      · have beyond : SettingId.all[n - 1]? = none := List.getElem?_eq_none (by
          show 23 ≤ n - 1
          omega)
        exact (if_neg (by omega)).trans beyond
    · have window_iff : t.window ∈ [8, 16, 32] ↔ SettingId.window.allows t (t.get .window) = true := by
        rw [SettingId.allows_window, List.mem_cons, List.mem_cons, List.mem_singleton]
        rfl
      rw [Settings.wf_iff_allows]
      refine ⟨fun h => ⟨window_iff.2 (h .window), fun id i v lo hi d row => ?_⟩, fun ⟨window, inside⟩ i => ?_⟩
      · obtain ⟨-, value, range, -⟩ := given row
        by_cases hi : i = .window
        · subst hi
          obtain ⟨rfl, rfl⟩ := Prod.mk.inj range
          rcases (SettingId.allows_window t _).1 (h .window) with size | size | size <;>
            rw [← value, size] <;> decide
        · have allowed := (SettingId.allows_iff t _ hi).1 (h i)
          rwa [value, range] at allowed
      · by_cases hi : i = .window
        · subst hi
          exact window_iff.1 window
        · obtain ⟨⟨id, j, v, lo, high, d⟩, row, rfl⟩ : ∃ r ∈ rows, r.2.1 = i :=
            List.mem_map.1 (rows_all ▸ (by cases i <;> decide : i ∈ SettingId.all))
          obtain ⟨-, value, range, -⟩ := given row
          refine (SettingId.allows_iff t _ hi).2 ?_
          rw [value, range]
          exact inside _ _ _ _ _ _ row
  · intro given lo hi v done set new u
    have value : i.bring s.ret.settings given = v := SettingId.bring_cases _ _ _
    have table : s.ret.settings.store i v = new := Settings.store_eq _ _ _
    have effect : setSettingEffect bytes s.begin = (s.begin.storeSettings new, done) := by
      rw [setSettingEffect, named]
      dsimp only
      rw [State.begin_ret, value, table]
      rfl
    have taken : exec .setSetting s = .next { s.settingsStored new with ports := ⟨[], none, []⟩, svc := u.svc } :=
      congrArg _ (serving_storeSettings hp carries effect)
    obtain ⟨settings, clock, writeSeq, shocks, epoch, mon, suspects⟩ := settingsStored_keeps s new
    have others (j : SettingId) (hj : j ∈ [SettingId.window, .holdLimit, .capacity, .reserve, .critMv]) (hij : i ≠ j) :
        s.ret.settings.get j = new.get j := by
      rw [← table]
      exact (Settings.store_get_other _ _ hj hij).symm
    refine ⟨taken, fun plain => ?_, fun isWindow changed => ?_, _, taken, settings, rfl, clock, writeSeq, shocks, epoch, mon,
      suspects⟩
    · have other (j : SettingId) (hj : j ∈ [SettingId.window, .holdLimit, .capacity, .reserve, .critMv]) :=
        others j hj fun same => plain (same ▸ hj)
      rw [taken, settingsStored_plain (other .window (by decide)) (other .holdLimit (by decide)) (other .capacity (by decide))
        (other .reserve (by decide)) (other .critMv (by decide))]
    · have new_window : new.window = v := by
        rw [← table, isWindow]
        rfl
      rw [taken, settingsStored_window (new_window ▸ changed.symm) (others .holdLimit (by decide) (by rw [isWindow]; decide))
        (others .capacity (by decide) (by rw [isWindow]; decide)) (others .reserve (by decide) (by rw [isWindow]; decide))
        (others .critMv (by decide) (by rw [isWindow]; decide)), new_window]

/-! ### The other commands that write settings, the stamp and the charge -/

theorem getLsbD_modifiedMask (old mask value : BitVec 8) {i : Nat} (h : i < 8) :
    (modifiedMask old mask value).getLsbD i = if mask.getLsbD i then value.getLsbD i else old.getLsbD i := by
  rw [modifiedMask, BitVec.getLsbD_or, BitVec.getLsbD_and, BitVec.getLsbD_and, BitVec.getLsbD_not, decide_eq_true h]
  cases mask.getLsbD i <;> cases old.getLsbD i <;> cases value.getLsbD i <;> rfl

/-- A byte has a bit set in common with another exactly where their conjunction is not 0. -/
theorem and_ne_zero_iff (a b : BitVec 8) : a &&& b ≠ 0 ↔ ∃ i, i < 8 ∧ a.getLsbD i = true ∧ b.getLsbD i = true := by
  constructor
  · intro h
    by_contra none
    refine h (BitVec.eq_of_getLsbD_eq fun i hi => ?_)
    have zero : BitVec.getLsbD (0 : BitVec 8) i = false := BitVec.getLsbD_zero
    rw [BitVec.getLsbD_and, zero, Bool.eq_false_iff]
    exact fun both => none ⟨i, hi, Bool.and_eq_true_iff.1 both⟩
  · rintro ⟨i, -, ha, hb⟩ h
    have bit := congrArg (fun v : BitVec 8 => v.getLsbD i) h
    simp [ha, hb] at bit

/-- ATTN# on a part that serves (R180). -/
theorem attnLow_iff (hp : s.phase = .running) : s.attnLow = true ↔ s.causes &&& s.ret.settings.enableMask ≠ 0 := by
  rw [State.attnLow, hp]
  exact decide_eq_true_iff

/-- Settles O53: the enable mask is a setting that is only read. -/
theorem modifyAttentionMasksTheEnable : Obligations.ModifyAttentionMasksTheEnable := by
  intro s bytes hp carries
  have stored := serving_storeSettings hp carries (f := modifyAttentionEffect) rfl
  have mask (b : BitVec 8) : BitVec.ofInt 8 (b.toNat : Int) = b := by
    rw [BitVec.ofInt_natCast, BitVec.ofNat_toNat, BitVec.setWidth_eq]
  let new := modifiedMask s.ret.settings.enableMask (place bytes 4) (place bytes 5)
  have plain : s.settingsStored (s.ret.settings.set .attnEnable new.toNat) =
      { s with ret := { s.ret with settings := s.ret.settings.set .attnEnable new.toNat } } :=
    settingsStored_plain rfl rfl rfl rfl rfl
  rw [State.begin_ret, plain] at stored
  refine ⟨new, _, fun i hi => getLsbD_modifiedMask _ _ _ hi, congrArg Host.Outcome.next stored, rfl, ?_⟩
  rw [← and_ne_zero_iff]
  exact (attnLow_iff (by exact hp)).trans (Iff.of_eq (congrArg (fun m => s.causes &&& m ≠ 0) (mask new)))

/-- A four-byte argument, high byte first (R163). -/
theorem arg32_eq (f : List Byte) (i : Nat) :
    arg32 f i =
      (place f i).toNat * 16777216 + (place f (i + 1)).toNat * 65536 + (place f (i + 2)).toNat * 256 + (place f (i + 3)).toNat := by
  simp only [arg32, ofBe, List.foldl_cons, List.foldl_nil]
  omega

/-- Settles O54: the stamp's command writes the clock and the copy. -/
theorem setStampTakesTheValue : Obligations.SetStampTakesTheValue := by
  intro s bytes hp carries v
  have value : arg32 bytes 4 = v := arg32_eq bytes 4
  have taken : exec .setStamp s = .next _ := congrArg Host.Outcome.next (serving_runCommand hp carries setStampEffect)
  rw [taken, setStampEffect, value]
  rfl

/-- A charge set by a command (R119 to R121). -/
theorem putCharge_eq (s : State) (q : Nat) :
    s.putCharge q =
      { s with
        gauge :=
          { s.gauge with
            q := q, underrun := false, unknown := false, chargeLow := decide (q < s.ret.settings.reserve.toNat * 3600000) }
        ret := { s.ret with chargeCopy := { q := q, underrun := false, unknown := false } }
        causes :=
          if s.gauge.voltageLow = false ∧ decide (q < s.ret.settings.reserve.toNat * 3600000) ≠ s.gauge.chargeLow then
            s.causes ||| 8
          else s.causes } := by
  rw [State.putCharge]
  exact handLevel_charge rfl

/-- Settles O55: both commands put a charge. -/
theorem chargeCommandsSetQ : Obligations.ChargeCommandsSetQ := by
  intro s bytes hp wf given mah after
  refine ⟨fun carries => ?_, fun carries => ?_⟩
  · have taken : exec .setCharge s = .next _ := congrArg Host.Outcome.next (serving_runCommand hp carries setChargeEffect)
    rw [taken, setChargeEffect, putCharge_eq]
    rfl
  · have taken : exec .markFull s = .next _ := congrArg Host.Outcome.next (serving_runCommand hp carries fun _ => markFullEffect)
    rw [taken, markFullEffect, putCharge_eq]
    rfl

/-- Settles O58: the defaults stored, and what of it a part without holds is left. -/
theorem restoreDefaultsStoresTheDefaults : Obligations.RestoreDefaultsStoresTheDefaults := by
  intro s bytes hp carries done svc
  have applied : s.ret.settings.changes Settings.defaults =
      SettingId.all.countP fun i => decide (s.ret.settings.get i ≠ Settings.defaults.get i) := List.countP_eq_length_filter.symm
  have taken : exec .restoreDefaults s =
      .next { s.settingsStored Settings.defaults with ports := ⟨[], none, []⟩, svc := svc } := by
    refine congrArg Host.Outcome.next (serving_storeSettings hp carries (new := Settings.defaults) (done := done) ?_)
    rw [restoreDefaultsEffect, State.begin_ret, applied]
    rfl
  refine ⟨taken, _, taken, ?_⟩
  obtain ⟨settings, clock, writeSeq, shocks, epoch, mon, suspects⟩ := settingsStored_keeps s Settings.defaults
  obtain ⟨records, copy, fe, slots, queue, releases, fails, counters, causes, chargeLow, voltageLow, stored⟩ :=
    settingsStored_reaches s Settings.defaults
  refine ⟨settings, rfl, writeSeq, epoch, suspects, shocks, clock, ?_, ?_, fun inside => ?_, mon, fun free =>
    settingsStored_free free _⟩
  · rw [stored]
  · rw [stored]
  · rw [stored]
    have full : min s.gauge.q (Settings.defaults.capacity.toNat * 3600000) = s.gauge.q := Nat.min_eq_left inside
    exact (congrArg (fun q => if s.ret.settings.capacity = Settings.defaults.capacity then s.gauge.q else q) full).trans
      (ite_self _)

end Sys2Proof.Machine
end

section
/-! PROOFS. The checks and the answer of a command frame, and the commands that clear and release (R90, R152, R160, R163 to R166,
R172, R173, R195). -/

namespace Sys2Proof.Machine

variable {s : State}

/-! ### The arguments of a frame (R163, R168, R172, R195) -/

theorem ofBe_pair (a b : Byte) : ofBe [a, b] = a.toNat * 256 + b.toNat := by
  simp only [ofBe, List.foldl_cons, List.foldl_nil]
  omega

theorem arg32_lt (f : List Byte) (i : Nat) : arg32 f i < 4294967296 := by
  have bound (b : Byte) : b.toNat < 256 := b.isLt
  have := bound (place f i)
  have := bound (place f (i + 1))
  have := bound (place f (i + 2))
  have := bound (place f (i + 3))
  rw [arg32_eq]
  omega

theorem argInt32_eq (f : List Byte) (i : Nat) :
    argInt32 f i = if arg32 f i < 2147483648 then (arg32 f i : Int) else (arg32 f i : Int) - 4294967296 := by
  have bound := arg32_lt f i
  have whole : (BitVec.ofNat 32 (arg32 f i)).toNat = arg32 f i := by
    rw [BitVec.toNat_ofNat]
    exact Nat.mod_eq_of_lt bound
  rw [argInt32, BitVec.toInt_eq_toNat_cond, whole]
  split <;> split <;> omega

theorem ofNat?_eq_some {n : Nat} {k : ModuleId} : ModuleId.ofNat? n = some k ↔ n = k.val := by
  match n with
  | 0 => cases k <;> decide
  | 1 => cases k <;> decide
  | 2 => cases k <;> decide
  | 3 => cases k <;> decide
  | n + 4 =>
    have : k.val < 4 := by cases k <;> decide
    exact ⟨nofun, fun h => by omega⟩

/-- The selector ALL (R172). -/
theorem frameSelector_all {f : List Byte} : frameSelector f = some .all ↔ (place f 4).toNat = 2 := by
  unfold frameSelector
  split
  case h_1 one =>
    rw [one]
    refine ⟨fun h => ?_, fun h => absurd h (by decide)⟩
    dsimp only at h
    split at h
    · exact nomatch h
    · split at h
      · exact nomatch h
      · split at h
        · exact nomatch h
        · split at h <;> exact nomatch h
  case h_2 two => exact ⟨fun _ => two, fun _ => rfl⟩
  case h_3 other => exact ⟨nofun, fun h => absurd h other⟩

/-- The selector ONE, with its key (R172). -/
theorem frameSelector_one {f : List Byte} {key : SuspectKey} :
    frameSelector f = some (.one key) ↔
      (place f 4).toNat = 1 ∧ (place f 5).toNat = key.module.val
        ∧ (place f 6).toNat * 256 + (place f 7).toNat = key.block.toNat
        ∧ (place f 8).toNat = (match key.page with | some page => page.toNat | none => 255) := by
  obtain ⟨k, block, page⟩ := key
  have blockSmall := block.isLt
  unfold frameSelector
  split
  case h_1 one =>
    rw [and_iff_right one, ofBe_pair, ← ofNat?_eq_some]
    dsimp only
    generalize (place f 6).toNat * 256 + (place f 7).toNat = n
    generalize (place f 8).toNat = m
    cases ModuleId.ofNat? (place f 5).toNat with
    | none => exact ⟨nofun, fun h => nomatch h.1⟩
    | some j =>
      dsimp only
      by_cases big : 2047 < n
      · rw [if_pos big]
        exact ⟨nofun, fun h => by omega⟩
      rw [if_neg big]
      have same : BitVec.ofNat 11 n = block ↔ n = block.toNat := by
        rw [← BitVec.toNat_inj, BitVec.toNat_ofNat, Nat.mod_eq_of_lt (by omega)]
      by_cases whole : m = 255
      · rw [if_pos whole]
        simp only [Option.some.injEq, SuspectSelector.one.injEq, SuspectKey.mk.injEq, same]
        cases page with
        | none => simp only [whole, and_true]
        | some p =>
          have small := p.isLt
          exact ⟨fun h => (nomatch h.2.2), fun h => by have : m = p.toNat := h.2.2; omega⟩
      · rw [if_neg whole]
        by_cases far : 127 < m
        · rw [if_pos far]
          cases page with
          | none => exact ⟨nofun, fun h => absurd h.2.2 whole⟩
          | some p =>
            have small := p.isLt
            exact ⟨nofun, fun h => by have : m = p.toNat := h.2.2; omega⟩
        · rw [if_neg far]
          simp only [Option.some.injEq, SuspectSelector.one.injEq, SuspectKey.mk.injEq, same]
          cases page with
          | none => exact ⟨fun h => (nomatch h.2.2), fun h => absurd h.2.2 whole⟩
          | some p =>
            rw [Option.some.injEq, ← BitVec.toNat_inj, BitVec.toNat_ofNat, Nat.mod_eq_of_lt (by omega)]
  case h_2 two => exact ⟨nofun, fun h => absurd (two.symm.trans h.1) (by decide)⟩
  case h_3 other => exact ⟨nofun, fun h => absurd h.1 (by assumption)⟩

/-! ### Suspects, records and counters cleared (R152, R160, R173) -/

/-- Settles O56: the selectors and arguments, and each command's removal. -/
theorem clearCommandsRemoveWhatTheyName : Obligations.ClearCommandsRemoveWhatTheyName := by
  refine ⟨fun f => ⟨frameSelector_all, fun key => frameSelector_one, fun i => ⟨arg32_eq f i, argInt32_eq f i⟩⟩, fun s bytes hp => ?_⟩
  intro gone t accepted
  refine ⟨fun carries => ?_, fun carries => ?_, fun carries => ?_⟩
  · have taken : exec .releaseSuspect s = .next _ :=
      congrArg Host.Outcome.next (serving_runCommand hp carries releaseSuspectEffect)
    rw [taken]
    refine ⟨fun all => ?_, fun key one => ⟨fun ⟨e, mem, its⟩ => ?_, fun none => ?_⟩⟩
    · rw [releaseSuspectEffect, all]
      rfl
    · cases found : findSuspect s.ret.suspects key with
      | none => exact absurd its (findSuspect_none.1 found e mem)
      | some e =>
        have released : s.begin.releaseSuspects (.one key) = (s.begin.removeSuspect key, some 1) := by
          rw [State.releaseSuspects, State.begin_ret, found]
        rw [releaseSuspectEffect, one]
        dsimp only
        rw [released]
        rfl
    · have released : s.begin.releaseSuspects (.one key) = (s.begin, Option.none) := by
        rw [State.releaseSuspects, State.begin_ret, findSuspect_none.2 none]
      rw [releaseSuspectEffect, one]
      dsimp only
      rw [released]
      rfl
  · have taken : exec .clearShockLog s = .next _ :=
      congrArg Host.Outcome.next (serving_runCommand hp carries clearShockLogEffect)
    have kept : (s.ret.shocks.filter fun r => r.isOpen || decide (arg32 bytes 4 < r.number)) =
        s.ret.shocks.filter fun r => !gone r :=
      List.filter_congr fun r _ => by
        rw [Bool.not_and, Bool.not_not, ← decide_not, decide_eq_decide.2 Nat.not_le]
    have count : s.ret.shocks.length - (s.ret.shocks.filter fun r => !gone r).length = (s.ret.shocks.filter gone).length := by
      have := List.length_eq_length_filter_add (l := s.ret.shocks) gone
      omega
    have cleared : s.begin.clearShocks (arg32 bytes 4) =
        (s.begin.onRet fun m => { m with shocks := s.ret.shocks.filter fun r => !gone r, overwritten := 0 },
          (s.ret.shocks.filter gone).length) := by
      rw [← count, ← kept]
      rfl
    rw [taken, clearShockLogEffect, cleared]
    rfl
  · have taken : exec .clearCounters s = .next _ :=
      congrArg Host.Outcome.next (serving_runCommand hp carries fun _ => clearCountersEffect)
    rw [taken]
    rfl

/-! ### RELEASE HOLDS (R86, R90, R173) -/

/-- The slot is counted by RELEASE HOLDS: it waits, or is queued for another cause (R173). -/
def State.forces (s : State) (k : ModuleId) : Bool :=
  s.isWaiting k || ((s.slotLive k).heldIn .releaseQueued && decide (s.queuedCause k ≠ some .forced))

theorem releasable_of_forces {k : ModuleId} (h : s.forces k = true) : s.releasable k = true :=
  (Bool.or_eq_true_iff.1 h).elim releasable_of_isWaiting fun queued =>
    Bool.or_eq_true_iff.2 (.inr (Bool.and_eq_true_iff.1 queued).1)

theorem forces_releasing {l : List ModuleId} {k : ModuleId} (h : k ∉ l) : (s.releasing .forced l).forces k = s.forces k := by
  rw [State.forces, isWaiting_releasing h, slotLive_releasing, if_neg h, State.releasing, queuedCause_inserting h]
  rfl

theorem forces_releasing_mem {l : List ModuleId} {k : ModuleId} (h : k ∈ l) : (s.releasing .forced l).forces k = false := by
  have queued : (s.releasing .forced l).queuedCause k = some .forced := (queuedCause_inserting_mem h).trans (if_pos rfl)
  rw [State.forces, isWaiting_releasing_mem h, queued]
  exact Bool.and_false _

theorem forceAll_eq (s : State) :
    s.forceAll =
      (s.releasing .forced (s.releaseQueue.filter s.releasable),
        (ModuleId.all.filter fun k => decide (k ∈ s.releaseQueue) && s.forces k).length) := by
  have step (l : List ModuleId) (k : ModuleId) (hl : ∀ j ∈ l, s.releasable j = true) :
      ((s.releasing .forced l).releaseSlot k .forced,
          (ModuleId.all.filter fun j => decide (j ∈ l) && s.forces j).length
            + if (s.releasing .forced l).forces k then 1 else 0) =
        if s.releasable k then
          (s.releasing .forced (l ++ [k]), (ModuleId.all.filter fun j => decide (j ∈ l ++ [k]) && s.forces j).length)
        else (s.releasing .forced l, (ModuleId.all.filter fun j => decide (j ∈ l) && s.forces j).length) := by
    cases held : s.releasable k with
    | false =>
      have out : k ∉ l := fun h => absurd ((hl k h).symm.trans held) (by decide)
      have still : (s.releasing .forced l).releasable k = false := by
        rw [State.releasable, slotLive_releasing, if_neg out]
        exact held
      have uncounted : s.forces k = false := Bool.eq_false_iff.2 fun h => absurd ((releasable_of_forces h).symm.trans held) (by decide)
      rw [releaseSlot_not_releasable still, forces_releasing out, uncounted]
      rfl
    | true =>
      rw [releaseSlot_releasing held, if_pos rfl]
      refine congrArg (Prod.mk _) ?_
      by_cases again : k ∈ l
      · rw [forces_releasing_mem again]
        simp only [mem_append_of_mem again]
        rfl
      · rw [forces_releasing again]
        have others (j : ModuleId) (hj : j ≠ k) : (decide (j ∈ l ++ [k]) && s.forces j) = (decide (j ∈ l) && s.forces j) := by
          rw [decide_eq_decide.2 (mem_append_singleton.trans (or_iff_left hj))]
        cases counted : s.forces k with
        | true =>
          refine (length_filter_all_new (k := k) ?_ ?_ others).symm
          · rw [decide_eq_false again, Bool.false_and]
          · rw [decide_eq_true (mem_append_singleton.2 (.inr rfl)), counted]
            rfl
        | false =>
          refine congrArg List.length (List.filter_congr fun j _ => ?_)
          by_cases same : j = k
          · rw [same, counted, Bool.and_false, Bool.and_false]
          · exact (others j same).symm
  have collected := foldl_collects
    (S := fun l => (s.releasing .forced l, (ModuleId.all.filter fun j => decide (j ∈ l) && s.forces j).length))
    (op := fun p k => let r := p.1.forceSlot k; (r.1, p.2 + r.2)) step s.releaseQueue
  have start : (s.releasing .forced [], (ModuleId.all.filter fun j => decide (j ∈ ([] : List ModuleId)) && s.forces j).length) =
      (s, 0) := by
    rw [List.filter_eq_nil_iff.2 fun j _ h => List.not_mem_nil (of_decide_eq_true (Bool.and_eq_true_iff.1 h).1)]
    exact congrArg (Prod.mk · 0) (inserting_nil s _ _ _)
  have count : (ModuleId.all.filter fun k => decide (k ∈ s.releaseQueue.filter s.releasable) && s.forces k) =
      ModuleId.all.filter fun k => decide (k ∈ s.releaseQueue) && s.forces k :=
    List.filter_congr fun k _ => by
      cases counted : s.forces k with
      | false => rw [Bool.and_false, Bool.and_false]
      | true => rw [decide_eq_decide.2 (List.mem_filter.trans (and_iff_left (releasable_of_forces counted)))]
  rw [count] at collected
  rw [State.forceAll, ← collected]
  exact congrArg (fun p => s.releaseQueue.foldl (fun p k => let r := State.forceSlot p.1 k; (r.1, p.2 + r.2)) p) start.symm

/-- Settles O57: the forced releases and their count. -/
theorem releaseHoldsForcesTheHeldSlot : Obligations.ReleaseHoldsForcesTheHeldSlot := by
  intro s bytes hp carries waits queued forced applied
  have taken : exec .releaseHolds s = .next _ :=
    congrArg Host.Outcome.next (serving_runCommand hp carries fun _ => releaseHoldsEffect)
  rw [taken, releaseHoldsEffect, forceAll_eq]
  rfl

/-! ### The checks of a frame (R163, R165) -/

theorem ofId_isSome {n : Nat} : (SettingId.ofId n).isSome = true ↔ 1 ≤ n ∧ n ≤ 23 := by
  have all : SettingId.all.length = 23 := rfl
  unfold SettingId.ofId
  by_cases zero : n = 0
  · rw [if_pos zero]
    exact ⟨fun h => absurd h Bool.false_ne_true, fun h => by omega⟩
  · rw [if_neg zero]
    by_cases inside : n - 1 < SettingId.all.length
    · rw [List.getElem?_eq_getElem inside]
      exact ⟨fun _ => by omega, fun _ => rfl⟩
    · rw [List.getElem?_eq_none (not_lt.1 inside)]
      exact ⟨fun h => absurd h Bool.false_ne_true, fun h => by omega⟩

theorem frameSelector_isSome {f : List Byte} :
    (frameSelector f).isSome = true ↔
      (place f 4).toNat = 2
        ∨ (place f 4).toNat = 1 ∧ (place f 5).toNat ≤ 3 ∧ (place f 6).toNat * 256 + (place f 7).toNat ≤ 2047
          ∧ ((place f 8).toNat ≤ 127 ∨ (place f 8).toNat = 255) := by
  rw [Option.isSome_iff_exists]
  constructor
  · rintro ⟨_ | _, selected⟩
    case one key =>
      obtain ⟨k, block, page⟩ := key
      obtain ⟨one, isModule, isBlock, isPage⟩ := frameSelector_one.1 selected
      have moduleSmall : k.val ≤ 3 := by cases k <;> decide
      have blockSmall := block.isLt
      dsimp only at isModule isBlock
      refine .inr ⟨one, by omega, by omega, ?_⟩
      cases page with
      | none => exact .inr isPage
      | some p =>
        have pageSmall := p.isLt
        have : (place f 8).toNat = p.toNat := isPage
        exact .inl (by omega)
    case all => exact .inl (frameSelector_all.1 selected)
  · rintro (two | ⟨one, module, block, page⟩)
    · exact ⟨_, frameSelector_all.2 two⟩
    · obtain ⟨k, hk⟩ : ∃ k : ModuleId, (place f 5).toNat = k.val := by
        generalize (place f 5).toNat = n at module
        interval_cases n
        · exact ⟨.m0, rfl⟩
        · exact ⟨.m1, rfl⟩
        · exact ⟨.m2, rfl⟩
        · exact ⟨.m3, rfl⟩
      have hblock : (place f 6).toNat * 256 + (place f 7).toNat =
          (BitVec.ofNat 11 ((place f 6).toNat * 256 + (place f 7).toNat)).toNat := by
        rw [BitVec.toNat_ofNat, Nat.mod_eq_of_lt (by omega)]
      rcases page with page | whole
      · refine ⟨.one ⟨k, _, some (BitVec.ofNat 7 (place f 8).toNat)⟩, frameSelector_one.2 ⟨one, hk, hblock, ?_⟩⟩
        show _ = (BitVec.ofNat 7 (place f 8).toNat).toNat
        rw [BitVec.toNat_ofNat, Nat.mod_eq_of_lt (by omega)]
      · exact ⟨.one ⟨k, _, none⟩, frameSelector_one.2 ⟨one, hk, hblock, whole⟩⟩

/-- The arguments that the two commands that check theirs accept (R165, R168, R172). -/
theorem argsAcceptable_iff {f : List Byte} {c : CmdCode} :
    argsAcceptable f c = true ↔
      (c = .setSetting → 1 ≤ (place f 4).toNat ∧ (place f 4).toNat ≤ 23)
        ∧ (c = .releaseSuspect →
          (place f 4).toNat = 2
            ∨ (place f 4).toNat = 1 ∧ (place f 5).toNat ≤ 3 ∧ (place f 6).toNat * 256 + (place f 7).toNat ≤ 2047
              ∧ ((place f 8).toNat ≤ 127 ∨ (place f 8).toNat = 255)) := by
  by_cases setting : c = .setSetting
  · subst setting
    exact ofId_isSome.trans ⟨fun h => ⟨fun _ => h, nofun⟩, fun h => h.1 rfl⟩
  · by_cases release : c = .releaseSuspect
    · subst release
      exact frameSelector_isSome.trans ⟨fun h => ⟨nofun, fun _ => h⟩, fun h => h.2 rfl⟩
    · refine ⟨fun _ => ⟨fun h => absurd h setting, fun h => absurd h release⟩, fun _ => ?_⟩
      cases c <;> first | rfl | exact absurd rfl setting | exact absurd rfl release

theorem ofByte_none {b : Byte} (h : b.toNat = 0 ∨ 10 < b.toNat) : CmdCode.ofByte b = none := by
  unfold CmdCode.ofByte
  split <;> first | rfl | omega

theorem ofByte_some {b : Byte} {n : Nat} {c : CmdCode}
    (row : (n, c) ∈ [(1, CmdCode.setSetting), (2, .modifyAttention), (3, .setStamp), (4, .setCharge), (5, .markFull),
      (6, .releaseSuspect), (7, .clearShockLog), (8, .releaseHolds), (9, .clearCounters), (10, .restoreDefaults)])
    (h : b.toNat = n) : CmdCode.ofByte b = some c := by
  simp only [List.mem_cons, Prod.mk.injEq, List.not_mem_nil, or_false] at row
  rw [CmdCode.ofByte, h]
  rcases row with ⟨rfl, rfl⟩ | ⟨rfl, rfl⟩ | ⟨rfl, rfl⟩ | ⟨rfl, rfl⟩ | ⟨rfl, rfl⟩ | ⟨rfl, rfl⟩ | ⟨rfl, rfl⟩ | ⟨rfl, rfl⟩
    | ⟨rfl, rfl⟩ | ⟨rfl, rfl⟩ <;> rfl

theorem checkFrame_unmarked {f : List Byte} (h : ¬((place f 0).toNat = 0xA7 ∧ (place f 1).toNat = 0x3C)) :
    checkFrame f = .error .malformed := by
  refine if_pos ?_
  by_contra marked
  obtain ⟨first, second⟩ := not_or.1 marked
  exact h ⟨congrArg BitVec.toNat (not_not.1 first), congrArg BitVec.toNat (not_not.1 second)⟩

theorem checkFrame_marked {f : List Byte} (h : (place f 0).toNat = 0xA7 ∧ (place f 1).toNat = 0x3C) :
    checkFrame f =
      if (crc16 (f.take 16)).toNat = (place f 16).toNat * 256 + (place f 17).toNat then
        match CmdCode.ofByte (place f 2) with
        | none => .error .unknown
        | some c => if argsAcceptable f c then .ok c else .error .malformed
      else .error .malformed := by
  have marked : ¬(place f 0 ≠ 0xA7 ∨ place f 1 ≠ 0x3C) :=
    not_or.2 ⟨not_not.2 (BitVec.eq_of_toNat_eq h.1), not_not.2 (BitVec.eq_of_toNat_eq h.2)⟩
  refine (if_neg marked).trans ?_
  rw [ofBe_pair]
  exact ite_not _ _ _

/-- The close code of a command frame hands the frame to the handler and ends the sequence (R18, R166). -/
theorem closeProgram_svcFrame {q : Seq} {f : FrameBuf} (hh : q.handling = .svcFrame) (hf : s.svc.frame = some f) :
    s.closeProgram q =
      { s with
        svc := { s.svc with frame := none, processing := some (.frame f.bytes none), processingBy := s.now + 2000 }
        relay := { s.relay with seq := none, nested := none, stray := false }
        doze := { s.doze with idleFromMs := s.now / 1000 } } := by
  have left (u : State) : u.leaveSequence q = u.onSvc fun v => { v with frame := none } := by
    rw [State.leaveSequence, hh]
  have handed : (s.onSvc fun v =>
        { v with
          processing := some (.frame ((v.frame.map FrameBuf.bytes).getD []) none)
          processingBy := s.now + Config.frameTime }) =
      { s with svc := { s.svc with processing := some (.frame f.bytes none), processingBy := s.now + 2000 } } := by
    have bytes : (s.svc.frame.map FrameBuf.bytes).getD [] = f.bytes := by rw [hf]; rfl
    rw [State.onSvc, bytes]
    rfl
  rw [State.closeProgram, hh]
  dsimp only
  rw [handed, endSequence_of_leave rfl (left _)]
  rfl

/-- Settles O59: the checks in their order, and the end of each processing. -/
theorem processingEndGivesTheAnswer : Obligations.ProcessingEndGivesTheAnswer := by
  refine ⟨fun f => ?_, fun s hp => ?_⟩
  · intro p isMarked isWhole isTaken
    refine ⟨fun i => rfl, fun fails => ?_, fun marked whole => ⟨fun outside => ?_, fun n c row named => ?_⟩⟩
    · by_cases marked : isMarked
      · exact (checkFrame_marked marked).trans (if_neg fun whole => fails ⟨marked, whole⟩)
      · exact checkFrame_unmarked marked
    · refine (checkFrame_marked marked).trans ((if_pos whole).trans ?_)
      rw [ofByte_none (b := place f 2) outside]
    · have checked := (checkFrame_marked marked).trans (if_pos whole)
      rw [ofByte_some (b := place f 2) row named] at checked
      exact ⟨fun taken => checked.trans (if_pos (argsAcceptable_iff.2 taken)),
        fun not => checked.trans (if_neg (mt argsAcceptable_iff.1 not))⟩
  · refine ⟨fun bytes d done => ?_, fun bytes e waits fails => ?_, fun page report => ?_, fun q f h hk hh hc hf => ?_⟩
    · have ended : exec .serviceProcessingEnd s = .next (s.begin.giveAnswer bytes d.result (some d.applied)) := by
        simp only [exec, execServiceProcessingEnd, State.serving_running hp, State.endProcessing, State.begin_svc, done]
      exact ended
    · have ended : exec .serviceProcessingEnd s = .next (s.begin.giveAnswer bytes e none) := by
        simp only [exec, execServiceProcessingEnd, State.serving_running hp, State.endProcessing, State.begin_svc, waits, fails]
      exact ended
    · have ended : exec .serviceProcessingEnd s = .next (s.begin.setProcessing none) := by
        simp only [exec, execServiceProcessingEnd, State.serving_running hp, State.endProcessing, State.begin_svc, report]
      exact ended
    · obtain ⟨absorb, nested, seq⟩ := h
      intro t
      have taken : exec .programClose s = .next (s.nestedEnded.begin.closeProgram { q with closeTaken := true }) :=
        congrArg Host.Outcome.next (hk ▸ serving_closeCode hp absorb seq (by rw [hh]; nofun) hc State.closeProgram)
      refine ⟨?_, ?_⟩
      · rw [taken, nestedEnded_of_none nested, closeProgram_svcFrame (by exact hh) (by exact hf)]
        rfl
      · have present : t.present .m0 = true := decide_eq_true (Nat.zero_le _)
        have busy : t.viewBusy .m0 = true := Bool.or_true _
        rw [State.rbShowsBusy, present, busy]
        rfl

end Sys2Proof.Machine
end

section
/-! PROOFS. The report pages: what stands at a column, and each page's fields (R175 to R178, R195, R199, R200). -/

namespace Sys2Proof.Machine

variable {s : State}

/-! ### Fields at columns -/

/-- The bytes `fs` stand in `bs` from column `c` on. -/
def Shows (bs : List Byte) (c : Nat) (fs : List Byte) : Prop := (bs.drop c).take fs.length = fs

/-- The number that `n` bytes from column `c` hold. -/
def readAt (bs : List Byte) (c n : Nat) : Nat := ofBe ((bs.drop c).take n)

/-- The number that the byte of column `c` holds, 0xFF beyond the content. -/
def byteAt (bs : List Byte) (c : Nat) : Nat := (bs.getD c 0xFF).toNat

theorem shows_append (pre fs post : List Byte) : Shows (pre ++ (fs ++ post)) pre.length fs := by
  rw [Shows, List.drop_left, List.take_left]

/-- A part of what stands at a column stands further on. -/
theorem Shows.part {bs fs gs : List Byte} {c : Nat} (whole : Shows bs c fs) (j : Nat) (h : Shows fs j gs) :
    Shows bs (c + j) gs := by
  obtain ⟨rest, hr⟩ : fs <+: bs.drop c := List.prefix_iff_eq_take.2 whole.symm
  obtain ⟨more, hm⟩ : gs <+: fs.drop j := List.prefix_iff_eq_take.2 h.symm
  have further : bs.drop (c + j) = gs ++ (more ++ rest.drop (j - fs.length)) := by
    rw [← List.drop_drop, ← hr, List.drop_append, ← hm, List.append_assoc]
  rw [Shows, further, List.take_left]

theorem Shows.byte {bs : List Byte} {c : Nat} {b : Byte} (h : Shows bs c [b]) : bs.getD c 0xFF = b := by
  obtain ⟨rest, hr⟩ : [b] <+: bs.drop c := List.prefix_iff_eq_take.2 h.symm
  have found : bs[c]? = some b := by
    have first := congrArg (·[0]?) hr
    simpa [List.getElem?_drop] using first.symm
  rw [List.getD_eq_getElem?_getD, found, Option.getD_some]

theorem byteOf_toNat (n : Nat) : (byteOf n).toNat = min n 255 := by
  rw [byteOf, BitVec.toNat_ofNat]
  omega

/-- A byte that shows a number at the top when it is beyond it (R200). -/
theorem Shows.top8 {bs : List Byte} {c n : Nat} (h : Shows bs c [byteOf n]) : byteAt bs c = min n 255 := by
  rw [byteAt, h.byte, byteOf_toNat]

theorem Shows.num8 {bs : List Byte} {c n : Nat} (h : Shows bs c [byteOf n]) (le : n ≤ 255) : byteAt bs c = n := by
  rw [h.top8, min_eq_left le]

theorem Shows.top16 {bs : List Byte} {c n : Nat} (h : Shows bs c (be16 n)) : readAt bs c 2 = min n 65535 := by
  have field : (bs.drop c).take 2 = be16 n := h
  rw [readAt, field, ofBe_be16_min]

theorem Shows.top32 {bs : List Byte} {c n : Nat} (h : Shows bs c (be32 n)) :
    readAt bs c 4 = min n 4294967295 := by
  have field : (bs.drop c).take 4 = be32 n := h
  rw [readAt, field, ofBe_be32_min]

theorem Shows.num16 {bs : List Byte} {c n : Nat} (h : Shows bs c (be16 n)) (le : n ≤ 65535) :
    readAt bs c 2 = n := by
  rw [h.top16, min_eq_left le]

theorem Shows.num32 {bs : List Byte} {c n : Nat} (h : Shows bs c (be32 n)) (le : n ≤ 4294967295) :
    readAt bs c 4 = n := by
  rw [h.top32, min_eq_left le]

/-- A signed field shows its number in two's complement, clamped to its bits (R195, R200). -/
theorem Shows.int16 {bs : List Byte} {c : Nat} {v : Int} (h : Shows bs c (be16Int v)) :
    readAt bs c 2 = (BitVec.ofInt 16 (max (-32768) (min 32767 v))).toNat := by
  rw [← clampInt_eq (by decide)]
  exact h.num16 (Nat.le_of_lt_succ (BitVec.isLt _))

theorem Shows.int32 {bs : List Byte} {c : Nat} {v : Int} (h : Shows bs c (be32Int v)) :
    readAt bs c 4 = (BitVec.ofInt 32 (max (-2147483648) (min 2147483647 v))).toNat := by
  rw [← clampInt_eq (by decide)]
  exact h.num32 (Nat.le_of_lt_succ (BitVec.isLt _))

/-- A code, or the code of an absent value. -/
theorem Shows.code {α : Type} {bs : List Byte} {c absent : Nat} {f : α → Nat} {o : Option α}
    (h : Shows bs c [codeOr f absent o]) (top : absent ≤ 255) (small : ∀ a, f a ≤ 255) :
    byteAt bs c = o.elim absent f := by
  cases o with
  | none => exact h.num8 top
  | some a => exact h.num8 (small a)

theorem Shows.flag {bs : List Byte} {c : Nat} {b : Bool} (h : Shows bs c [byteOf (flagBit 0 b)]) :
    byteAt bs c = if b then 1 else 0 := by
  cases b <;> exact h.num8 (by decide)

/-! ### Lists of places -/

/-- A list of places of `n` bytes each is `n` times as long. -/
theorem length_places {α : Type} {f : α → List Byte} {n : Nat} (hn : ∀ a, (f a).length = n) (l : List α) :
    (l.map f).flatten.length = n * l.length := by
  induction l with
  | nil => rfl
  | cons a l ih =>
    rw [List.map_cons, List.flatten_cons, List.length_append, ih, hn, List.length_cons]
    ring

/-- The place of the item of index `i`, in places of `n` bytes each. -/
theorem shows_place {α : Type} {f : α → List Byte} {n : Nat} (hn : ∀ a, (f a).length = n) {l : List α} {i : Nat} {a : α}
    (h : l[i]? = some a) : Shows (l.map f).flatten (n * i) (f a) := by
  obtain ⟨before, after, rfl, rfl⟩ : ∃ before after, l = before ++ a :: after ∧ before.length = i := by
    obtain ⟨inside, item⟩ := List.getElem?_eq_some_iff.1 h
    exact ⟨l.take i, l.drop (i + 1), by rw [← item, List.getElem_cons_drop, List.take_append_drop],
      List.length_take_of_le inside.le⟩
  rw [List.map_append, List.flatten_append, List.map_cons, List.flatten_cons, ← length_places hn]
  exact shows_append _ _ _

/-- The place of the item of index `i` in a page, after the bytes `pre`. -/
theorem shows_place_after {α : Type} {f : α → List Byte} {n : Nat} (hn : ∀ a, (f a).length = n) {l : List α} {i : Nat} {a : α}
    (pre post : List Byte) (h : l[i]? = some a) : Shows (pre ++ ((l.map f).flatten ++ post)) (pre.length + n * i) (f a) :=
  (shows_append pre _ post).part _ (shows_place hn h)

/-- Padding reads as a column beyond the content does. -/
theorem getD_padTo (n i : Nat) (bs : List Byte) : (padTo n bs).getD i 0xFF = bs.getD i 0xFF := by
  rw [padTo]
  by_cases inside : i < bs.length
  · exact List.getD_append _ _ _ _ inside
  · rw [List.getD_append_right _ _ _ _ (not_lt.1 inside), List.getD_eq_default _ _ (not_lt.1 inside),
      List.getD_eq_getElem?_getD, List.getElem?_replicate]
    split <;> rfl

theorem length_padTo (n : Nat) (bs : List Byte) : (padTo n bs).length = max n bs.length := by
  rw [padTo, List.length_append, List.length_replicate]
  omega

/-! ### The pages -/

theorem Level.code_le (a : Level) : a.code ≤ 255 := by cases a <;> decide

theorem MonState.code_le (a : MonState) : a.code ≤ 255 := by cases a <;> decide

theorem SlotState.code_le (a : SlotState) : a.code ≤ 255 := by cases a <;> decide

theorem SlotStep.code_le (a : SlotStep) : a.code ≤ 255 := by cases a <;> decide

theorem OpKind.code_le (a : OpKind) : a.code ≤ 255 := by cases a <;> decide

theorem ReleaseCause.code_le (a : ReleaseCause) : a.code ≤ 5 := by cases a <;> decide

theorem SlotOutcome.code_le (a : SlotOutcome) : a.code ≤ 255 := by cases a <;> decide

theorem ShockKind.code_le (a : ShockKind) : a.code ≤ 255 := by cases a <;> decide

theorem Axis.code_le (a : Axis) : a.code ≤ 255 := by cases a <;> decide

theorem Reason.code_le (a : Reason) : a.code ≤ 255 := by cases a <;> decide

theorem Verdict.code_le (a : Verdict) : a.code ≤ 255 := by cases a <;> decide

theorem InsertKind.code_le (a : InsertKind) : a.code ≤ 4 := by cases a <;> decide

theorem CmdResult.code_le (a : CmdResult) : a.code ≤ 255 := by cases a <;> decide

theorem moduleVal_le (k : ModuleId) : k.val ≤ 255 := by cases k <;> decide

theorem page_le (p : BitVec 7) : p.toNat ≤ 255 := by omega

theorem shockPlace_length (r : ShockRec) : (shockPlace r).length = 24 := rfl

theorem suspectPlace_length (e : Suspect) : (suspectPlace e).length = 20 := rfl

theorem insertPlace_length (e : Insert) : (insertPlace e).length = 2 := rfl


/-- The fields of a slot's place, each a number (R105, R199). -/
def slotFields (r : SlotRec) (l : SlotLive) (ms : Nat) : List Byte :=
  [[byteOf l.state.code, codeOr SlotStep.code 0 l.step, codeOr OpKind.code 0 r.kind],
    be16 (match r.block with
      | some b => b.toNat
      | none => 65535),
    [codeOr BitVec.toNat 255 r.page, byteOf (flagBit 0 r.tagged)],
    be32 (r.writeSeq.getD 0),
    [codeOr Level.code 255 r.level],
    be32 (r.holdStart.elim 4294967295 (· % 4294967296)),
    [codeOr ReleaseCause.code 0 r.cause],
    be32 (r.exposure.elim 0 Exposure.record),
    be16 (r.exposure.elim 65535 Exposure.offset),
    be16 (if l.state = .free then r.busyMs else l.busyMs ms),
    [codeOr SlotOutcome.code 0 r.last],
    be32 (l.issueMs.elim 4294967295 (· % 4294967296)),
    List.replicate 10 0xFF].flatten

theorem be32Ms_eq (o : Option Nat) : be32Ms o = be32 (o.elim 4294967295 (· % 4294967296)) := by
  cases o <;> rfl

theorem slotPlace_eq (s : State) (k : ModuleId) : slotPlace s k = slotFields (s.slotRec k) (s.slotLive k) s.ms := by
  rw [slotPlace]
  generalize s.slotRec k = r
  generalize s.slotLive k = l
  have live : (if l.state.isLive then l.busyMs s.ms else r.busyMs) = if l.state = .free then r.busyMs else l.busyMs s.ms := by
    cases l.state <;> rfl
  rw [live, be32Ms_eq, be32Ms_eq, slotFields]
  cases r.exposure with
  | none => rfl
  | some x => rfl

theorem slotPlace_length (s : State) (k : ModuleId) : (slotPlace s k).length = 40 := by
  rw [slotPlace_eq]
  rfl


/-- The places of a release queue and an insert queue of at most four entries, after the slots (R199). -/
theorem slotContent_columns (s : State) :
    ∃ before : List Byte, before.length = 164 ∧
      (reportContent s 5).1 = before ++ (padTo 4 (s.releaseQueue.map fun k => byteOf k.val)
        ++ padTo 8 (s.arb.queue.map insertPlace).flatten) := by
  refine ⟨pageHeader 5 ++ (freeBytes s.freeIndex 1 ++ (ModuleId.all.map (slotPlace s)).flatten), ?_, ?_⟩
  · rw [List.length_append, List.length_append, length_places (slotPlace_length s)]
    rfl
  · have content : (reportContent s 5).1 = pageHeader 5 ++ slotContent s := rfl
    rw [content, slotContent]
    simp only [List.append_assoc]

/-- The bits of four flags (R177, R199). -/
theorem flagBits_testBit : ∀ b0 b1 b2 b3 : Bool, ∀ k : Fin 4,
    (byteOf [flagBit 0 b0, flagBit 1 b1, flagBit 2 b2, flagBit 3 b3].sum).toNat.testBit k.val = [b0, b1, b2, b3].get k := by
  decide

theorem healthByte_testBit (s : State) (k : ModuleId) :
    (healthByte s).toNat.testBit k.val = decide (k.val ≤ s.straps.modCnt.toNat ∧ s.relay.stuck.get k = true) := by
  have bits := flagBits_testBit (s.present .m0 && s.relay.stuck.get .m0) (s.present .m1 && s.relay.stuck.get .m1)
    (s.present .m2 && s.relay.stuck.get .m2) (s.present .m3 && s.relay.stuck.get .m3)
  have shown : decide (k.val ≤ s.straps.modCnt.toNat ∧ s.relay.stuck.get k = true) = (s.present k && s.relay.stuck.get k) := by
    rw [State.present, Bool.decide_and, Bool.decide_eq_true]
  rw [shown]
  cases k with
  | m0 => exact bits 0
  | m1 => exact bits 1
  | m2 => exact bits 2
  | m3 => exact bits 3

/-- What the close code of a report page does (R175, R176, R180). -/
theorem takeSnapshot_eq {p : BitVec 7} (s : State) (hp : p ∈ [(1 : BitVec 7), 2, 3, 4, 5, 6, 7]) :
    s.takeSnapshot p =
      { s with
        svc :=
          { s.svc with
            snapshot := some { page := p, content := (reportContent s p).1 }
            processing := some (.report p)
            processingBy := s.now + 50 }
        causes := if p = 2 then 0 else s.causes
        counters := if p = 7 ∧ s.ret.settings.counterClearOnRead = 1 then Counters.zero else s.counters
        freeIndex := s.freeIndex + (if p = 4 then 3 else if 5 ≤ p.toNat then 1 else 0) } := by
  have shown : s.causes &&& ~~~s.causes = 0 := BitVec.and_not_self _
  simp only [List.mem_cons, List.not_mem_nil, or_false] at hp
  rcases hp with rfl | rfl | rfl | rfl | rfl | rfl | rfl
  case inr.inl =>
    have cleared : s.takeSnapshot 2 =
      { s with
        svc :=
          { s.svc with
            snapshot := some { page := 2, content := (reportContent s 2).1 }
            processing := some (.report 2)
            processingBy := s.now + 50 }
        causes := s.causes &&& ~~~s.causes } := rfl
    rw [cleared, shown]
    rfl
  case inr.inr.inr.inr.inr.inr =>
    by_cases clears : s.ret.settings.counterClearOnRead = 1
    · rw [if_pos (c := _ ∧ _) ⟨rfl, clears⟩]
      exact if_pos clears
    · rw [if_neg (c := _ ∧ _) fun both => clears both.2]
      exact if_neg clears
  all_goals rfl

/-! ### The fields of a place -/

/-- A shock record's fields (R199). -/
theorem shockPlace_fields {bs : List Byte} {c : Nat} {r : ShockRec} (h : Shows bs c (shockPlace r)) :
    readAt bs c 4 = min r.number 4294967295 ∧ byteAt bs (c + 4) = r.kind.code
    ∧ byteAt bs (c + 5) = (if r.isOpen then 1 else 0) ∧ readAt bs (c + 6) 4 = min r.stamp 4294967295
    ∧ readAt bs (c + 10) 2 = min r.duration 65535
    ∧ (r.peak = none → readAt bs (c + 12) 2 = 65535 ∧ byteAt bs (c + 14) = 255)
    ∧ (∀ p, r.peak = some p → readAt bs (c + 12) 2 = min p.l1 65535 ∧ byteAt bs (c + 14) = p.axis.code)
    ∧ byteAt bs (c + 15) = (if r.saturated then 1 else 0) ∧ byteAt bs (c + 16) = min r.strikes 255
    ∧ readAt bs (c + 17) 2 = min r.charge 65535 ∧ byteAt bs (c + 19) = min r.exposed 255
    ∧ byteAt bs (c + 20) = min r.held 255 ∧ readAt bs (c + 21) 3 = 0xFFFFFF := by
  have at_ (j : Nat) {fs : List Byte} (hj : Shows (shockPlace r) j fs) : Shows bs (c + j) fs := h.part j hj
  have level (n : Nat) (hn : be16 n = be16 (match r.peak with
      | some p => p.l1
      | none => 65535)) : Shows bs (c + 12) (be16 n) := at_ 12 hn.symm
  have axis : Shows bs (c + 14) [codeOr (fun p : Peak => p.axis.code) 255 r.peak] := at_ 14 rfl
  have reserved : Shows bs (c + 21) [0xFF, 0xFF, 0xFF] := at_ 21 rfl
  refine ⟨Shows.top32 (at_ 0 rfl), Shows.num8 (at_ 4 rfl) r.kind.code_le, Shows.flag (at_ 5 rfl),
    Shows.top32 (at_ 6 rfl), Shows.top16 (at_ 10 rfl), fun none => ?_, fun p some => ?_, Shows.flag (at_ 15 rfl),
    Shows.top8 (at_ 16 rfl), Shows.top16 (at_ 17 rfl), Shows.top8 (at_ 19 rfl),
    Shows.top8 (at_ 20 rfl), congrArg ofBe reserved⟩
  · rw [none] at axis level
    exact ⟨(level _ rfl).num16 le_rfl, axis.num8 (n := 255) le_rfl⟩
  · rw [some] at axis level
    exact ⟨(level _ rfl).top16, axis.num8 (n := p.axis.code) p.axis.code_le⟩

/-- A suspect entry's fields (R199). -/
theorem suspectPlace_fields {bs : List Byte} {c : Nat} {e : Suspect} (h : Shows bs c (suspectPlace e)) :
    byteAt bs c = e.key.module.val ∧ readAt bs (c + 1) 2 = e.key.block.toNat
    ∧ byteAt bs (c + 3) = e.key.page.elim 255 BitVec.toNat
    ∧ byteAt bs (c + 4) = e.reason.code ∧ byteAt bs (c + 5) = e.verdict.code
    ∧ readAt bs (c + 6) 4 = min (e.writeSeq.getD 0) 4294967295 ∧ readAt bs (c + 10) 4 = min (e.shock.getD 0) 4294967295
    ∧ readAt bs (c + 14) 4 = min e.stamp 4294967295 ∧ readAt bs (c + 18) 2 = 65535 := by
  have at_ (j : Nat) {fs : List Byte} (hj : Shows (suspectPlace e) j fs) : Shows bs (c + j) fs := h.part j hj
  have block : e.key.block.toNat ≤ 65535 := by omega
  have reserved : Shows bs (c + 18) [0xFF, 0xFF] := at_ 18 rfl
  exact ⟨Shows.num8 (at_ 0 rfl) (moduleVal_le _), Shows.num16 (at_ 1 rfl) block, Shows.code (at_ 3 rfl) le_rfl page_le,
    Shows.num8 (at_ 4 rfl) e.reason.code_le, Shows.num8 (at_ 5 rfl) e.verdict.code_le, Shows.top32 (at_ 6 rfl),
    Shows.top32 (at_ 10 rfl), Shows.top32 (at_ 14 rfl), congrArg ofBe reserved⟩

/-- A ms timer value, shown by its low 32 bits (R200). -/
theorem Shows.ms {bs : List Byte} {c : Nat} {o : Option Nat}
    (h : Shows bs c (be32 (o.elim 4294967295 (· % 4294967296)))) :
    readAt bs c 4 = o.elim 4294967295 (· % 4294967296) := by
  refine h.num32 ?_
  cases o with
  | none => exact le_rfl
  | some n => exact Nat.le_of_lt_succ (Nat.mod_lt n (by decide))

/-- A slot's fields (R105, R199). -/
theorem slotFields_reads {bs : List Byte} {c : Nat} {r : SlotRec} {l : SlotLive} {ms : Nat}
    (h : Shows bs c (slotFields r l ms)) :
    byteAt bs c = l.state.code ∧ byteAt bs (c + 1) = l.step.elim 0 SlotStep.code
    ∧ byteAt bs (c + 2) = r.kind.elim 0 OpKind.code
    ∧ readAt bs (c + 3) 2 = r.block.elim 65535 BitVec.toNat
    ∧ byteAt bs (c + 5) = r.page.elim 255 BitVec.toNat
    ∧ byteAt bs (c + 6) = (if r.tagged then 1 else 0) ∧ readAt bs (c + 7) 4 = min (r.writeSeq.getD 0) 4294967295
    ∧ byteAt bs (c + 11) = r.level.elim 255 Level.code
    ∧ readAt bs (c + 12) 4 = r.holdStart.elim 4294967295 (· % 4294967296)
    ∧ byteAt bs (c + 16) = r.cause.elim 0 ReleaseCause.code
    ∧ (r.exposure = none → readAt bs (c + 17) 4 = 0 ∧ readAt bs (c + 21) 2 = 65535)
    ∧ (∀ x, r.exposure = some x →
      readAt bs (c + 17) 4 = min x.record 4294967295 ∧ readAt bs (c + 21) 2 = min x.offset 65535)
    ∧ readAt bs (c + 23) 2 = min (if l.state = .free then r.busyMs else l.busyMs ms) 65535
    ∧ byteAt bs (c + 25) = r.last.elim 0 SlotOutcome.code
    ∧ readAt bs (c + 26) 4 = l.issueMs.elim 4294967295 (· % 4294967296)
    ∧ ∀ i, i < 10 → byteAt bs (c + 30 + i) = 255 := by
  have at_ (j : Nat) {fs : List Byte} (hj : Shows (slotFields r l ms) j fs) : Shows bs (c + j) fs := h.part j hj
  have block : readAt bs (c + 3) 2 = r.block.elim 65535 BitVec.toNat := by
    cases blockIs : r.block with
    | none => exact Shows.num16 (at_ 3 (by rw [slotFields, blockIs]; rfl)) le_rfl
    | some b => exact Shows.num16 (n := b.toNat) (at_ 3 (by rw [slotFields, blockIs]; rfl)) (by omega)
  have record : Shows bs (c + 17) (be32 (r.exposure.elim 0 Exposure.record)) := at_ 17 rfl
  have offset : Shows bs (c + 21) (be16 (r.exposure.elim 65535 Exposure.offset)) := at_ 21 rfl
  have reserved : Shows bs (c + 30) (List.replicate 10 0xFF) := at_ 30 rfl
  refine ⟨Shows.num8 (at_ 0 rfl) l.state.code_le, Shows.code (at_ 1 rfl) (Nat.zero_le _) SlotStep.code_le,
    Shows.code (at_ 2 rfl) (Nat.zero_le _) OpKind.code_le, block, Shows.code (at_ 5 rfl) le_rfl page_le, Shows.flag (at_ 6 rfl),
    Shows.top32 (at_ 7 rfl), Shows.code (at_ 11 rfl) le_rfl Level.code_le, Shows.ms (at_ 12 rfl),
    Shows.code (at_ 16 rfl) (Nat.zero_le _) fun a => a.code_le.trans (by decide), fun none => ?_, fun x some => ?_,
    Shows.top16 (at_ 23 rfl), Shows.code (at_ 25 rfl) (Nat.zero_le _) SlotOutcome.code_le, Shows.ms (at_ 26 rfl), fun i hi => ?_⟩
  · rw [none] at record offset
    exact ⟨record.num32 (Nat.zero_le _), offset.num16 le_rfl⟩
  · rw [some] at record offset
    exact ⟨record.top32, offset.top16⟩
  · have one : Shows (List.replicate 10 (0xFF : Byte)) i [0xFF] := by
      rw [Shows, List.drop_replicate, List.take_replicate, List.length_singleton, min_eq_left (by omega)]
      rfl
    rw [byteAt, (reserved.part i one).byte]
    rfl

end Sys2Proof.Machine
end

section
/-! PROOFS. Each report page from its header on: the places of its lists, its queues, and the close code that takes its snapshot
(R154, R161, R175 to R178, R199). -/

namespace Sys2Proof.Machine

variable {s : State}

/-! ### The places of a page -/

theorem shockPage_eq (s : State) : (reportContent s 3).1 =
    (pageHeader 3 ++ [byteOf s.ret.shocks.length]) ++ (s.ret.shocks.map shockPlace).flatten := rfl

theorem suspectPage_eq (s : State) : (reportContent s 4).1 =
    (pageHeader 4 ++ ([byteOf s.ret.suspects.length, byteOf s.ret.overflow] ++ freeBytes s.freeIndex 3))
      ++ (s.ret.suspects.map suspectPlace).flatten := rfl

theorem shockPage_length (s : State) : (reportContent s 3).1.length = 4 + 24 * s.ret.shocks.length := by
  rw [shockPage_eq, List.length_append, length_places shockPlace_length]
  rfl

theorem suspectPage_length (s : State) : (reportContent s 4).1.length = 8 + 20 * s.ret.suspects.length := by
  rw [suspectPage_eq, List.length_append, length_places suspectPlace_length]
  rfl

/-- A shock record's place (R161, R199). -/
theorem shows_shock {i : Nat} {r : ShockRec} (h : s.ret.shocks[i]? = some r) :
    Shows (reportContent s 3).1 (4 + 24 * i) (shockPlace r) := by
  rw [shockPage_eq, ← List.append_nil (List.flatten _)]
  exact shows_place_after shockPlace_length (pageHeader 3 ++ [byteOf s.ret.shocks.length]) [] h

/-- A suspect entry's place (R154, R199). -/
theorem shows_suspect {i : Nat} {e : Suspect} (h : s.ret.suspects[i]? = some e) :
    Shows (reportContent s 4).1 (8 + 20 * i) (suspectPlace e) := by
  rw [suspectPage_eq, ← List.append_nil (List.flatten _)]
  exact shows_place_after suspectPlace_length
    (pageHeader 4 ++ ([byteOf s.ret.suspects.length, byteOf s.ret.overflow] ++ freeBytes s.freeIndex 3)) [] h

theorem all_getElem? (k : ModuleId) : ModuleId.all[k.val]? = some k := by
  cases k <;> rfl

/-- A slot's place (R105, R199). -/
theorem shows_slot (k : ModuleId) :
    Shows (reportContent s 5).1 (4 + 40 * k.val) (slotFields (s.slotRec k) (s.slotLive k) s.ms) := by
  have content : (reportContent s 5).1 =
      (pageHeader 5 ++ freeBytes s.freeIndex 1) ++ ((ModuleId.all.map (slotPlace s)).flatten
        ++ (padTo 4 (s.releaseQueue.map fun k => byteOf k.val) ++ padTo 8 (s.arb.queue.map insertPlace).flatten)) := by
    have page : (reportContent s 5).1 = pageHeader 5 ++ slotContent s := rfl
    rw [page, slotContent]
    simp only [List.append_assoc]
  rw [content, ← slotPlace_eq]
  exact shows_place_after (slotPlace_length s) (pageHeader 5 ++ freeBytes s.freeIndex 1) _ (all_getElem? k)

/-- A setting stands at 4 times its id (R178, R199). -/
theorem shows_setting {n : Nat} {i : SettingId} (named : SettingId.ofId n = some i) :
    Shows (reportContent s 6).1 (4 * n) (be32Int (s.ret.settings.get i)) := by
  obtain ⟨positive, item⟩ : n ≠ 0 ∧ SettingId.all[n - 1]? = some i := by
    unfold SettingId.ofId at named
    split at named
    · cases named
    · next positive => exact ⟨positive, named⟩
  have content : (reportContent s 6).1 =
      (pageHeader 6 ++ freeBytes s.freeIndex 1) ++ ((SettingId.all.map fun i => be32Int (s.ret.settings.get i)).flatten ++ []) := by
    rw [List.append_nil]
    rfl
  have column : 4 * n = (pageHeader 6 ++ freeBytes s.freeIndex 1).length + 4 * (n - 1) := by
    have prefixed : (pageHeader 6 ++ freeBytes s.freeIndex 1).length = 4 := rfl
    omega
  rw [content, column]
  exact shows_place_after (f := fun i => be32Int (s.ret.settings.get i)) (fun _ => rfl) _ [] item

/-- A counter's place (R178, R199). -/
theorem shows_counter {n : Nat} {i : CounterId} (item : CounterId.all[n]? = some i) :
    Shows (reportContent s 7).1 (4 + 2 * n) (be16 (s.counters.get i)) := by
  have content : (reportContent s 7).1 =
      (pageHeader 7 ++ freeBytes s.freeIndex 1) ++ ((CounterId.all.map fun i => be16 (s.counters.get i)).flatten ++ []) := by
    rw [List.append_nil]
    rfl
  rw [content]
  exact shows_place_after (f := fun i => be16 (s.counters.get i)) (fun _ => rfl) (pageHeader 7 ++ freeBytes s.freeIndex 1) [] item

/-! ### The queues of page 5 -/

theorem byteAt_add_length (before rest : List Byte) (i : Nat) : byteAt (before ++ rest) (before.length + i) = byteAt rest i := by
  rw [byteAt, List.getD_append_right _ _ _ _ (Nat.le_add_right _ _), Nat.add_sub_cancel_left, byteAt]

theorem byteAt_append_left {before : List Byte} (rest : List Byte) {i : Nat} (h : i < before.length) :
    byteAt (before ++ rest) i = byteAt before i := by
  rw [byteAt, List.getD_append _ _ _ _ h, byteAt]

theorem byteAt_padTo (n i : Nat) (bs : List Byte) : byteAt (padTo n bs) i = byteAt bs i := by
  rw [byteAt, getD_padTo, byteAt]

/-- A release queue's bytes (R199). -/
theorem byteAt_modules (l : List ModuleId) (i : Nat) :
    byteAt (l.map fun k => byteOf k.val) i = l[i]?.elim 255 ModuleId.val := by
  rw [byteAt, List.getD_eq_getElem?_getD, List.getElem?_map]
  cases l[i]? with
  | none => rfl
  | some k => exact (byteOf_toNat _).trans (min_eq_left (moduleVal_le k))

/-- What an insert's second byte shows (R199). -/
def insertCode (e : Insert) : Nat := e.kind.code + 16 * e.cause.elim 0 ReleaseCause.code

theorem insertCode_le (e : Insert) : insertCode e ≤ 255 := by
  have kind := e.kind.code_le
  rw [insertCode]
  cases e.cause with
  | none => exact kind.trans (by decide)
  | some c =>
    have cause := c.code_le
    simp only [Option.elim_some]
    omega

theorem insertPlace_eq (e : Insert) : insertPlace e = [byteOf e.module.val, byteOf (insertCode e)] := by
  rw [insertPlace, insertCode]
  cases e.cause with
  | none => rfl
  | some c => rfl

/-- An insert queue's bytes (R199). -/
theorem byteAt_inserts (l : List Insert) (i : Nat) :
    byteAt (l.map insertPlace).flatten (2 * i) = l[i]?.elim 255 (fun e => e.module.val)
      ∧ byteAt (l.map insertPlace).flatten (2 * i + 1) = l[i]?.elim 255 insertCode := by
  cases item : l[i]? with
  | none =>
    have short := List.getElem?_eq_none_iff.1 item
    have whole := length_places insertPlace_length l
    have beyond (j : Nat) (hj : 2 * l.length ≤ j) : byteAt (l.map insertPlace).flatten j = 255 := by
      rw [byteAt, List.getD_eq_default _ _ (whole ▸ hj)]
      rfl
    exact ⟨beyond _ (by omega), beyond _ (by omega)⟩
  | some e =>
    have place := shows_place insertPlace_length item
    rw [insertPlace_eq] at place
    exact ⟨Shows.num8 (place.part 0 rfl) (moduleVal_le _), Shows.num8 (place.part 1 rfl) (insertCode_le e)⟩

/-- The queues of page 5, each of at most four entries (R20, R85, R199). -/
theorem slotContent_queues (releases : s.releaseQueue.length ≤ 4) (inserts : s.arb.queue.length ≤ 4) :
    (reportContent s 5).1.length = 176
      ∧ (∀ i, i < 4 → byteAt (reportContent s 5).1 (164 + i) = s.releaseQueue[i]?.elim 255 ModuleId.val)
      ∧ ∀ i, i < 4 → byteAt (reportContent s 5).1 (168 + 2 * i) = s.arb.queue[i]?.elim 255 (fun e => e.module.val)
        ∧ byteAt (reportContent s 5).1 (169 + 2 * i) = s.arb.queue[i]?.elim 255 insertCode := by
  obtain ⟨before, start, content⟩ := slotContent_columns s
  have four : (padTo 4 (s.releaseQueue.map fun k => byteOf k.val)).length = 4 := by
    rw [length_padTo, List.length_map, max_eq_left releases]
  have eight : (padTo 8 (s.arb.queue.map insertPlace).flatten).length = 8 := by
    rw [length_padTo, length_places insertPlace_length]
    omega
  have insertByte (j : Nat) : byteAt (reportContent s 5).1 (168 + j) = byteAt (s.arb.queue.map insertPlace).flatten j := by
    have column : 168 + j = before.length + ((padTo 4 (s.releaseQueue.map fun k => byteOf k.val)).length + j) := by omega
    rw [content, column, byteAt_add_length, byteAt_add_length, byteAt_padTo]
  refine ⟨?_, fun i hi => ?_, fun i _ => ⟨?_, ?_⟩⟩
  · rw [content, List.length_append, List.length_append, start, four, eight]
  · rw [content, ← start, byteAt_add_length, byteAt_append_left _ (four.symm ▸ hi), byteAt_padTo, byteAt_modules]
  · rw [insertByte, (byteAt_inserts _ i).1]
  · have column : 169 + 2 * i = 168 + (2 * i + 1) := by omega
    rw [column, insertByte, (byteAt_inserts _ i).2]

/-! ### O60 -/

theorem ofBe_concat (bs : List Byte) (b : Byte) : ofBe (bs ++ [b]) = ofBe bs * 256 + b.toNat := by
  rw [ofBe, List.foldl_append, ofBe]
  rfl

theorem header_bytes {p : BitVec 7} (hp : p ∈ [(1 : BitVec 7), 2, 3, 4, 5, 6, 7]) :
    byteAt (reportContent s p).1 0 = 0xA7 ∧ byteAt (reportContent s p).1 1 = 0x3C ∧ byteAt (reportContent s p).1 2 = p.toNat := by
  simp only [List.mem_cons, List.not_mem_nil, or_false] at hp
  rcases hp with rfl | rfl | rfl | rfl | rfl | rfl | rfl <;> exact ⟨rfl, rfl, rfl⟩

/-- Page 1 without an answer (R177, R199). -/
theorem answer_none (h : s.svc.answer = none) :
    byteAt (reportContent s 1).1 3 = 255 ∧ byteAt (reportContent s 1).1 4 = 255 ∧ byteAt (reportContent s 1).1 5 = 255
      ∧ byteAt (reportContent s 1).1 6 = 0 ∧ readAt (reportContent s 1).1 7 4 = 4294967295
      ∧ Shows (reportContent s 1).1 11 (be16 s.svc.answerCount) ∧ (reportContent s 1).1.length = 13 := by
  have content : (reportContent s 1).1 =
      pageHeader 1 ++ (([0xFF, 0xFF, 0xFF, 0x00] ++ be32 Config.maxWord32) ++ be16 s.svc.answerCount) := by
    have page : (reportContent s 1).1 = pageHeader 1 ++ answerContent s := rfl
    rw [page, answerContent, h]
  rw [content]
  exact ⟨rfl, rfl, rfl, rfl, Shows.num32 (n := 4294967295) rfl le_rfl, rfl, rfl⟩

/-- Page 1 with an answer (R177, R199). -/
theorem answer_some {a : Answer} (h : s.svc.answer = some a) :
    byteAt (reportContent s 1).1 3 = a.frameNumber.toNat ∧ byteAt (reportContent s 1).1 4 = a.code.toNat
      ∧ byteAt (reportContent s 1).1 5 = a.result.code
      ∧ (a.applied = none → byteAt (reportContent s 1).1 6 = 0 ∧ readAt (reportContent s 1).1 7 4 = 4294967295)
      ∧ (∀ v, a.applied = some v → byteAt (reportContent s 1).1 6 = 1
        ∧ readAt (reportContent s 1).1 7 4 = (BitVec.ofInt 32 (max (-2147483648) (min 2147483647 v))).toNat)
      ∧ Shows (reportContent s 1).1 11 (be16 s.svc.answerCount) ∧ (reportContent s 1).1.length = 13 := by
  have page : (reportContent s 1).1 = pageHeader 1 ++ answerContent s := rfl
  rw [page, answerContent, h]
  dsimp only
  cases a.applied with
  | none =>
    exact ⟨rfl, rfl, Shows.num8 rfl a.result.code_le, fun _ => ⟨rfl, Shows.num32 (n := 4294967295) rfl le_rfl⟩, nofun, rfl, rfl⟩
  | some v =>
    refine ⟨rfl, rfl, Shows.num8 rfl a.result.code_le, nofun, fun w same => ?_, rfl, rfl⟩
    cases same
    exact ⟨rfl, Shows.int32 rfl⟩

/-- The end of page 1, with an answer or without (R177, R199). -/
theorem answer_count (s : State) :
    readAt (reportContent s 1).1 11 2 = min s.svc.answerCount 65535 ∧ (reportContent s 1).1.length = 13 := by
  cases h : s.svc.answer with
  | none =>
    obtain ⟨-, -, -, -, -, count, whole⟩ := answer_none h
    exact ⟨count.top16, whole⟩
  | some a =>
    obtain ⟨-, -, -, -, -, count, whole⟩ := answer_some h
    exact ⟨count.top16, whole⟩

theorem flagBits_pair (a b : Bool) :
    min (flagBit 0 a + flagBit 1 b) 255 = (if a then 1 else 0) + if b then 2 else 0 := by
  cases a <;> cases b <;> rfl

/-- The fields of page 2, in its order (R199). -/
def statusFields (s : State) : List Byte :=
  [pageHeader 2,
    [s.causes, s.ret.settings.enableMask, byteOf s.mon.state.code, byteOf s.gauge.level.code,
      byteOf (flagBit 0 s.gauge.underrun + flagBit 1 s.gauge.unknown)],
    be16 s.permille, be16 s.remainingMah, be16 s.gauge.vAverage, be16Int s.currentMa,
    ModuleId.all.map fun k => byteOf (s.slotLive k).state.code,
    [byteOf s.releaseQueue.length, byteOf s.ret.suspects.length, byteOf s.ret.overflow, byteOf s.ret.shocks.length],
    be32 s.ret.epoch, be16 s.ret.overwritten, be32 s.ret.writeSeq, be32 s.clock.stamp,
    [healthByte s, byteOf (s.straps.svcSel.toNat + 4 * s.straps.modCnt.toNat)]].flatten

theorem statusPage_eq (s : State) : (reportContent s 2).1 = statusFields s := by
  have page : (reportContent s 2).1 = pageHeader 2 ++ statusContent s := rfl
  rw [page, statusContent, statusFields]
  simp only [List.flatten_cons, List.flatten_nil, List.append_nil, List.append_assoc]

/-- The bytes of page 2 (R177, R199). -/
theorem status_bytes (s : State) :
    byteAt (reportContent s 2).1 3 = s.causes.toNat ∧ byteAt (reportContent s 2).1 4 = s.ret.settings.enableMask.toNat
      ∧ byteAt (reportContent s 2).1 5 = s.mon.state.code ∧ byteAt (reportContent s 2).1 6 = s.gauge.level.code
      ∧ byteAt (reportContent s 2).1 7 = (if s.gauge.underrun then 1 else 0) + (if s.gauge.unknown then 2 else 0)
      ∧ (∀ k : ModuleId, byteAt (reportContent s 2).1 (16 + k.val) = (s.slotLive k).state.code)
      ∧ byteAt (reportContent s 2).1 20 = min s.releaseQueue.length 255
      ∧ byteAt (reportContent s 2).1 21 = min s.ret.suspects.length 255
      ∧ byteAt (reportContent s 2).1 22 = min s.ret.overflow 255
      ∧ byteAt (reportContent s 2).1 23 = min s.ret.shocks.length 255
      ∧ (∀ k : ModuleId, (byteAt (reportContent s 2).1 38).testBit k.val
        = decide (k.val ≤ s.straps.modCnt.toNat ∧ s.relay.stuck.get k = true))
      ∧ byteAt (reportContent s 2).1 39 = s.straps.svcSel.toNat + 4 * s.straps.modCnt.toNat := by
  rw [statusPage_eq]
  have charge : Shows (statusFields s) 7 [byteOf (flagBit 0 s.gauge.underrun + flagBit 1 s.gauge.unknown)] := rfl
  have slot (k : ModuleId) : Shows (statusFields s) (16 + k.val) [byteOf (s.slotLive k).state.code] := by
    cases k <;> rfl
  have straps : s.straps.svcSel.toNat + 4 * s.straps.modCnt.toNat ≤ 255 := by omega
  exact ⟨rfl, rfl, Shows.num8 rfl (MonState.code_le _), Shows.num8 rfl (Level.code_le _), charge.top8.trans (flagBits_pair _ _),
    fun k => (slot k).num8 (SlotState.code_le _), Shows.top8 rfl, Shows.top8 rfl, Shows.top8 rfl, Shows.top8 rfl,
    healthByte_testBit s, Shows.num8 rfl straps⟩

/-- The wider fields of page 2 (R177, R199). -/
theorem status_fields (s : State) :
    readAt (reportContent s 2).1 8 2 = min (s.gauge.q * 1000 / (s.ret.settings.capacity.toNat * 3600000)) 65535
      ∧ readAt (reportContent s 2).1 10 2 = min (s.gauge.q / 3600000) 65535
      ∧ readAt (reportContent s 2).1 12 2 = min (s.gauge.vSum / 16) 65535
      ∧ readAt (reportContent s 2).1 14 2
        = (BitVec.ofInt 16 (max (-32768) (min 32767 (s.gauge.iCal.tdiv 10)))).toNat
      ∧ readAt (reportContent s 2).1 24 4 = min s.ret.epoch 4294967295
      ∧ readAt (reportContent s 2).1 28 2 = min s.ret.overwritten 65535
      ∧ readAt (reportContent s 2).1 30 4 = min s.ret.writeSeq 4294967295
      ∧ readAt (reportContent s 2).1 34 4 = min s.clock.stamp 4294967295 ∧ (reportContent s 2).1.length = 40 := by
  rw [statusPage_eq]
  exact ⟨Shows.top16 rfl, Shows.top16 rfl, Shows.top16 rfl, Shows.int16 rfl, Shows.top32 rfl, Shows.top16 rfl, Shows.top32 rfl,
    Shows.top32 rfl, rfl⟩

/-- The counters of page 7 in its order (R199). -/
theorem counter_listed (c : Counters) {n : Nat} {i : CounterId} (item : CounterId.all[n]? = some i) :
    [c.empty, c.untagged, c.misplaced, c.mismatch, c.matched, c.skipped, c.protocol, c.timeout, c.refusedPrograms,
      c.refusedErases, c.holds, c.holdBreaks, c.stale].getD n 0 = c.get i := by
  have listed : [c.empty, c.untagged, c.misplaced, c.mismatch, c.matched, c.skipped, c.protocol, c.timeout,
      c.refusedPrograms, c.refusedErases, c.holds, c.holdBreaks, c.stale] = CounterId.all.map c.get := rfl
  rw [listed, List.getD_eq_getElem?_getD, List.getElem?_map, item]
  rfl

/-- Settles O60: the close code of each report page, and each page field by field. -/
theorem reportPageTakesItsSnapshot : Obligations.ReportPageTakesItsSnapshot := by
  refine ⟨fun s q p column c hp h hk hh hc row => ?_, fun s => ?_⟩
  · obtain ⟨absorb, nested, seq⟩ := h
    have named : p ∈ [(1 : BitVec 7), 2, 3, 4, 5, 6, 7] := by
      have second := List.mem_map_of_mem (f := Prod.snd) row
      exact second
    rw [exec_reportPage row, serving_reportPage hp absorb seq hk hc hh, nestedEnded_of_none nested, takeSnapshot_eq _ named]
    rfl
  intro read byte top8 top16 top32 signed32 signed16
  refine ⟨rfl, ofBe_concat, rfl, rfl, rfl, rfl, rfl, rfl, rfl, rfl, rfl, rfl, rfl, rfl, rfl, fun p hp => header_bytes hp, ?_⟩
  -- page 1
  refine ⟨fun none => ?_, fun a some => ?_, (answer_count s).1, (answer_count s).2, ?_⟩
  · obtain ⟨number, code, result, flag, value, -, -⟩ := answer_none none
    exact ⟨number, code, result, flag, value⟩
  · obtain ⟨number, code, result, without, applied, -, -⟩ := answer_some some
    exact ⟨number, code, result, without, applied⟩
  -- page 2
  obtain ⟨causes, mask, monitor, level, flags, slots, releases, suspects, overflow, shocks, health, straps⟩ := status_bytes s
  obtain ⟨permille, charge, voltage, current, epoch, overwritten, writeSeq, stamp, whole⟩ := status_fields s
  refine ⟨causes, mask, monitor, level, flags, permille, charge, voltage, current, slots, releases, suspects, overflow, shocks,
    epoch, overwritten, writeSeq, stamp, health, straps, whole, ?_⟩
  -- page 3
  refine ⟨Shows.top8 rfl, shockPage_length s, fun i r item => shockPlace_fields (shows_shock item), ?_⟩
  -- page 4
  refine ⟨Shows.top8 rfl, Shows.top8 rfl, suspectPage_length s, fun i e item => ?_, ?_⟩
  · obtain ⟨module, block, page, rest⟩ := suspectPlace_fields (shows_suspect item)
    exact ⟨module, block, page.trans (by cases e.key.page <;> rfl), rest⟩
  -- page 5
  refine ⟨fun k => ?_, fun releases inserts => ?_, ?_⟩
  · intro r l at_
    obtain ⟨state, step, kind, block, page, tagged, writeSeq, level, holdStart, cause, unexposed, exposed, busyMs, last,
      issueMs, reserved⟩ := slotFields_reads (c := at_) (r := r) (l := l) (shows_slot (s := s) k)
    exact ⟨state, step.trans (by cases l.step <;> rfl), kind.trans (by cases r.kind <;> rfl),
      block.trans (by cases r.block <;> rfl), page.trans (by cases r.page <;> rfl), tagged, writeSeq,
      level.trans (by cases r.level <;> rfl), holdStart.trans (by cases r.holdStart <;> rfl),
      cause.trans (by cases r.cause <;> rfl), unexposed, exposed, busyMs, last.trans (by cases r.last <;> rfl),
      issueMs.trans (by cases l.issueMs <;> rfl), reserved⟩
  · obtain ⟨whole, releaseByte, insertByte⟩ := slotContent_queues releases inserts
    refine ⟨whole, fun i hi => (releaseByte i hi).trans (by cases s.releaseQueue[i]? <;> rfl), fun i hi => ?_⟩
    obtain ⟨first, second⟩ := insertByte i hi
    refine ⟨first.trans (by cases s.arb.queue[i]? <;> rfl), second.trans ?_⟩
    cases s.arb.queue[i]? with
    | none => rfl
    | some e => exact congrArg (e.kind.code + 16 * ·) (by cases e.cause <;> rfl)
  -- pages 6 and 7
  refine ⟨rfl, fun n i named => (shows_setting named).int32, rfl, fun i hi => ?_⟩
  have item : CounterId.all[i]? = some CounterId.all[i] := List.getElem?_eq_getElem hi
  rw [counter_listed s.counters item]
  exact (shows_counter item).top16

end Sys2Proof.Machine
end
